-- ==== Sys2Proof/Word.lean ====
section
/-! DEFINITION. The word types the Lodrin 7420's spec treats as bits: bytes of frames and rows, and zone travel. -/

namespace Sys2Proof

/-- One byte of a frame or of a snapshot row (R177, R193). -/
abbrev Byte := BitVec 8

/-- Zone travel in µm: a signed 32-bit count that wraps (R40). -/
abbrev Travel := BitVec 32

end Sys2Proof
end

