-- ==== Sys2Proof/Syntax.lean ====
section
/-! DEFINITION. The commands of the Lodrin 7420: one constructor per row of spec/opcode_table.json. -/

namespace Sys2Proof

/-- One character received on the command link (R177): its stop bit, its ninth bit and its low eight bits. -/
structure RxChar where
  /-- the stop bit was high; a character with a low stop bit is a fault character and is passed over -/
  stop : Bool
  /-- the ninth bit: set on the character that starts a frame -/
  ninth : Bool
  byte : Byte
  deriving DecidableEq, Repr

/-- A frame a station sent on the expansion link, as its characters were received (R152, R156). -/
structure LinkFrame where
  /-- the station number of the address character -/
  address : Byte
  /-- the length byte -/
  length : Byte
  kind : Byte
  payload : List Byte
  crc : Byte
  deriving DecidableEq, Repr

/-- The commands. A request row stands for one complete, valid frame with that request, its tag and its fields (R178);
an event row stands for the moment at which the event of its rule happens. -/
inductive Instr where
  /-- IDENT (R181) -/
  | ident (tag : Byte)
  /-- RESET (R187) -/
  | reset (tag : Byte)
  /-- MAP_PUT (R2): table, first index, entry count, and the bytes of the entries (R189) -/
  | mapPut (tag : Byte) (table first count : Nat) (body : List Byte)
  /-- MAP_GET (R5) -/
  | mapGet (tag : Byte) (table first count : Nat)
  /-- ARM (R17) -/
  | arm (tag : Byte)
  /-- DISARM (R99) -/
  | disarm (tag : Byte)
  /-- CALIBRATE (R24) -/
  | calibrate (tag : Byte)
  /-- SPEED (R35): zone, speed in mm/s, direction byte -/
  | speed (tag : Byte) (zone spd dir : Nat)
  /-- GATE (R47): gate, position byte (0, 1, or 2 for RELEASE) -/
  | gate (tag : Byte) (gate pos : Nat)
  /-- SHEET_S (R55) -/
  | sheetS (tag : Byte) (job ordinal media route pageA : Nat)
  /-- SHEET_F (R56): the media byte is 255 for EXPLICIT; page B and the set number may be absent -/
  | sheetF (tag : Byte) (job ordinal route media length pageA : Nat) (pageB setNo : Option Nat) (setPos flags : Nat)
  /-- RESUME (R141) -/
  | resume (tag : Byte)
  /-- ABANDON (R144) -/
  | abandon (tag : Byte) (job : Nat)
  /-- TAKE (R138) -/
  | take (tag : Byte) (count : Nat)
  /-- LINES (R186): line, enable set -/
  | lines (tag : Byte) (line enable : Nat)
  /-- SNAP_ADOPT (R174) -/
  | snapAdopt (tag : Byte)
  /-- SNAP_DROP (R175) -/
  | snapDrop (tag : Byte)
  /-- QUERY STATE (R182) -/
  | queryState (tag : Byte)
  /-- QUERY SHEET (R72) -/
  | querySheet (tag : Byte) (sheet : Nat)
  /-- QUERY FLIGHT (R72) -/
  | queryFlight (tag : Byte) (page : Nat)
  /-- QUERY AREAS (R132) -/
  | queryAreas (tag : Byte)
  /-- QUERY ZONES (R48) -/
  | queryZones (tag : Byte) (part : Nat)
  /-- QUERY NODES (R33): first node, count -/
  | queryNodes (tag : Byte) (first count : Nat)
  /-- QUERY JAM (R96) -/
  | queryJam (tag : Byte)
  /-- QUERY SETS (R163) -/
  | querySets (tag : Byte) (page : Nat)
  /-- QUERY REPRINT (R139) -/
  | queryReprint (tag : Byte)
  /-- QUERY LINES (R186) -/
  | queryLines (tag : Byte)
  /-- QUERY STATIONS (R163) -/
  | queryStations (tag : Byte)
  /-- QUERY SNAPSHOT (R176): first row, count -/
  | querySnapshot (tag : Byte) (first count : Nat)
  /-- REQUEST_FRAME (R177, R178): the characters received, in order, with no gap between them -/
  | requestFrame (chars : List RxChar)
  /-- FRAME_GAP (R177): more than 2 ms without a character -/
  | frameGap
  /-- TRANSMIT_END (R184): the frame on the transmitter ends, or the idle transmitter looks for a frame -/
  | transmitEnd
  /-- LINK_BREAK (R188): the receive line has been held low for 20 ms -/
  | linkBreak
  /-- SENSOR_EDGE (R19, R21, R22): two consecutive samples of a sensor input line -/
  | sensorEdge (line first second : Nat)
  /-- BASELINE_TRACK (R26): the 16 ms moment -/
  | baselineTrack
  /-- CALIBRATE_END (R24): the last of the 16 samples -/
  | calibrateEnd
  /-- COVER_EVENT (R31): the 20th consecutive sample of a cover line at a new level -/
  | coverEvent (line : Nat) (isOpen : Bool)
  /-- GATE_FEEDBACK (R32): the second consecutive sample of a feedback line at a new level (true is position 1) -/
  | gateFeedback (line : Nat) (pos : Bool)
  /-- GATE_SWITCH_TIMEOUT (R43) -/
  | gateSwitchTimeout (gate : Nat)
  /-- ENCODER_EDGE (R40): one place forward or backward in the cycle of the pair -/
  | encoderEdge (zone : Nat) (forward : Bool)
  /-- INVALID_STEP (R40): two places in the cycle -/
  | invalidStep (zone : Nat)
  /-- STALL (R41): the edge age reaches the stall time -/
  | stall (zone : Nat)
  /-- STANDSTILL (R38, R104): 20 ms without a counted edge with all speeds 0, in HALTING -/
  | standstill
  /-- LATE_TIME (R79): a travel window's budget reaches 0 -/
  | lateTime (sheet : Nat)
  /-- STAY (R82): a stay window's budget reaches 0 -/
  | stay (sheet : Nat)
  /-- REPICK (R85): a pick window's first expiry -/
  | repick (sheet : Nat)
  /-- MISFEED (R85): a pick window's second expiry -/
  | misfeed (sheet : Nat)
  /-- REMOTE_LATE (R90): a remote window's elapsed count exceeds late plus the poll allowance -/
  | remoteLate (sheet : Nat)
  /-- AREA_CHECK (R126): an area's check timer reaches 300 ms -/
  | areaCheck (area : Nat)
  /-- IMMEDIATE_CHECK (R128): an immediate check that is due is taken -/
  | immediateCheck (area : Nat)
  /-- POLL_SLOT (R154): a 3 ms slot starts -/
  | pollSlot
  /-- STATION_REPLY (R156, R157): a frame received within 2 ms of the POLL and complete before the next slot, and the whole ms until it is taken -/
  | stationReply (frame : LinkFrame) (lag : Nat)
  /-- BAD_REPLY (R156) -/
  | badReply
  /-- POLL_MISS (R156) -/
  | pollMiss
  /-- STATION_PRESENT (R153): a presence line has been high for 10 samples -/
  | stationPresent (station : Nat)
  /-- STATION_ABSENT (R161): a presence line has been low for 10 samples -/
  | stationAbsent (station : Nat)
  /-- SUPPLY_WARN (R164): the warning timer reaches 2 -/
  | supplyWarn
  /-- SUPPLY_NORMAL (R165): the recovery timer reaches 50 -/
  | supplyNormal
  /-- ROW_WRITE_END (R167): the row write in progress ends -/
  | rowWriteEnd
  /-- BROWN_OUT (R166) -/
  | brownOut
  /-- EXTERNAL_RESET (R166) -/
  | externalReset
  /-- START (R173): the part starts; the two strap pins, and whether the core supply stayed above 1.8 V since the reset -/
  | start (strap1 strap2 coreKept : Bool)
  deriving DecidableEq, Repr

end Sys2Proof
end

