-- ==== Sys2Proof/Decode.lean ====
section
/-! DEFINITION. The command that a word spells by the bits of spec/opcode_table.json. -/

namespace Sys2Proof

/-- The table gives bits for no row: no word spells a command (log 4). The frames of the command link, which do spell requests,
are read by `Machine.parseRequest` and written by `Machine.encodeRequest`. -/
def decodeTableWord (_nbits _w : Nat) : Option Instr := none

end Sys2Proof
end

