-- ==== Sys2Proof/Config.lean ====
section
/-! DEFINITION. What the spec fixes as capacities and codes of the part, and the one value it leaves undefined. -/

namespace Sys2Proof.Config

/-- Flight list capacity (R49). -/
abbrev maxRecords : Nat := 24
/-- Set table capacity (R145). -/
abbrev maxSets : Nat := 8
/-- Reprint queue capacity (R133). -/
abbrev maxReprint : Nat := 64
/-- Notice queue capacity (R183). -/
abbrev maxNotices : Nat := 32
/-- Largest payload of a frame (R177, R179). -/
abbrev maxPayload : Nat := 120
/-- Hand-off queue capacity (R153, R155). -/
abbrev maxHandOffs : Nat := 4
/-- Cancel queue capacity (R153, R155). -/
abbrev maxCancels : Nat := 8
/-- Vendor code, part number and silicon revision (R181). -/
def vendorCode : Nat := 0x0C47
def partNumber : Nat := 7420
def siliconRevision : Nat := 1
/-- Check timer limit in ms (R126), debounce limits (R31, R153), standstill time (R38). -/
abbrev checkTime : Nat := 300
abbrev coverSamples : Nat := 20
abbrev presenceSamples : Nat := 10
abbrev quietTime : Nat := 20

/-- FREE VALUE (R167: "A row whose write is cut off by a reset holds undefined content"): byte `i` of the `k`-th row
that was cut off since power-on. It has no body, so no proof can see it (log 8). -/
opaque cutRowByte : Nat → Nat → Byte

end Sys2Proof.Config
end

