-- ==== Sys2Proof/Machine/State.lean ====
section
/-! DEFINITION. The state of the Lodrin 7420, block by block (00_scope.md, "How the part is organised"), and the state right
after reset. -/

namespace Sys2Proof.Machine

/-! ## PMS: the path map (chapter 1) -/

/-- Parameter entry (R4). -/
structure Params where
  minGap : Nat
  coverPct : Nat
  clearPct : Nat
  deriving DecidableEq, Repr

/-- Node kinds, numbered in this order (R6, R189). -/
inductive NodeKind where
  | sensor | mark | transfer | remote | dest
  deriving DecidableEq, Repr

/-- Node entry (R6). -/
structure NodeEntry where
  kind : NodeKind
  area : Nat
  line : Option Nat
  clearLevel : Option Nat
  measure : Option Bool
  purgeBin : Option Bool
  station : Option Nat
  localNo : Option Nat
  deriving DecidableEq, Repr

/-- Segment kinds, numbered in this order (R8). -/
inductive SegKind where
  | feed | path | reverse | remote
  deriving DecidableEq, Repr

/-- Segment entry (R8); `src` and `dst` are the from node and the to node. -/
structure SegEntry where
  src : Nat
  dst : Nat
  len : Nat
  zone : Nat
  area : Nat
  kind : SegKind
  early : Nat
  late : Nat
  margin : Nat
  retainOk : Bool
  loop : Bool
  purgeRoute : Option Nat
  deriving DecidableEq, Repr

/-- Route entry (R10). -/
structure RouteEntry where
  steps : List Nat
  purge : Bool
  deriving DecidableEq, Repr

/-- Cover source of an area (R13). -/
inductive CoverSource where
  | line (l : Nat)
  | station (st cover : Nat)
  | none
  deriving DecidableEq, Repr

/-- Area entry (R13). -/
structure AreaEntry where
  source : CoverSource
  rank : Nat
  deriving DecidableEq, Repr

/-- Zone entry (R14). -/
structure ZoneEntry where
  vmax : Nat
  vnom : Nat
  vfs : Nat
  pitch : Nat
  stallTime : Nat
  deriving DecidableEq, Repr

/-- Gate entry (R15). -/
structure GateEntry where
  node : Nat
  seg0 : Nat
  seg1 : Nat
  switchTime : Nat
  guard : Nat
  outLine : Nat
  fbLine : Nat
  deriving DecidableEq, Repr

/-- Media entry (R16). -/
structure MediaEntry where
  length : Nat
  tolerance : Nat
  doubleMargin : Nat
  slip : Nat
  duplex : Bool
  deriving DecidableEq, Repr

/-- The eight tables (R1). An undefined entry is `none`. -/
structure MapStore where
  params : Option Params
  nodes : List (Option NodeEntry)
  segs : List (Option SegEntry)
  routes : List (Option RouteEntry)
  areas : List (Option AreaEntry)
  zones : List (Option ZoneEntry)
  gates : List (Option GateEntry)
  media : List (Option MediaEntry)
  deriving DecidableEq, Repr

/-- After every reset every entry of every table is undefined (R1). -/
def MapStore.reset : MapStore where
  params := none
  nodes := List.replicate 32 none
  segs := List.replicate 48 none
  routes := List.replicate 16 none
  areas := List.replicate 12 none
  zones := List.replicate 8 none
  gates := List.replicate 6 none
  media := List.replicate 16 none

/-! ## SFE: sensors, covers, feedback (chapter 2) -/

inductive Level where
  | unset | clear | covered
  deriving DecidableEq, Repr

inductive Health where
  | ok | degraded | failed
  deriving DecidableEq, Repr

/-- SFE state of one node (R18). -/
structure NodeState where
  latest : Option Nat
  baseline : Option Nat
  level : Level
  run : Nat
  health : Health
  deriving DecidableEq, Repr

/-- After every reset, and each time the node's entry is replaced (R18). -/
def NodeState.reset : NodeState where
  latest := none
  baseline := none
  level := .unset
  run := 0
  health := .ok

/-- A calibration being sampled (R24): per input line how many of the 16 samples were taken, and their sum. -/
structure Calibration where
  tag : Byte
  counts : List Nat
  sums : List Nat
  ms : Nat
  deriving DecidableEq, Repr

structure Sfe where
  nodes : List NodeState
  /-- debounced local covers, true is OPEN (R31) -/
  covers : List Bool
  coverCount : List Nat
  /-- gate feedback readings, true is position 1 (R32) -/
  feedback : List Bool
  feedbackRun : List Nat
  calib : Option Calibration
  deriving DecidableEq, Repr

def Sfe.reset : Sfe where
  nodes := List.replicate 32 NodeState.reset
  covers := List.replicate 8 false
  coverCount := List.replicate 8 0
  feedback := List.replicate 6 false
  feedbackRun := List.replicate 6 0
  calib := none

/-! ## ZDU: zones and gates (chapter 3) -/

inductive Dir where
  | forward | reverse
  deriving DecidableEq, Repr

/-- State of one zone (R34). -/
structure ZoneState where
  speed : Nat
  dir : Dir
  duty : Nat
  travel : Travel
  phase : Nat
  age : Nat
  stallMark : Bool
  stepErrors : Nat
  deriving DecidableEq, Repr

/-- The values of R34 after reset and after a MAP_PUT; the encoder phase is the level the inputs have. -/
def ZoneState.reset (phase : Nat) : ZoneState where
  speed := 0
  dir := .forward
  duty := 0
  travel := 0
  phase := phase
  age := 0
  stallMark := false
  stepErrors := 0

inductive GateStatus where
  | undriven | moving | confirmed
  deriving DecidableEq, Repr

/-- State of one gate (R42); positions are `false` for 0 and `true` for 1. -/
structure GateState where
  cmd : Option Bool
  status : GateStatus
  timer : Nat
  expired : Bool
  faulted : Bool
  serving : Option Nat
  deriving DecidableEq, Repr

def GateState.reset : GateState where
  cmd := none
  status := .undriven
  timer := 0
  expired := false
  faulted := false
  serving := none

/-- The gate test of ARM waiting for a gate to confirm a position (R46). -/
structure ArmTest where
  tag : Byte
  gate : Nat
  pos : Bool
  deriving DecidableEq, Repr

structure Zdu where
  zones : List ZoneState
  /-- ms since the last counted edge of any zone, held at 20 (R38) -/
  quiet : Nat
  gates : List GateState
  armTest : Option ArmTest
  deriving DecidableEq, Repr

def Zdu.reset : Zdu where
  zones := List.replicate 8 (ZoneState.reset 0)
  quiet := 0
  gates := List.replicate 6 GateState.reset
  armTest := none

/-! ## FLT: the flight list (chapters 4 and 5) -/

inductive Progress where
  | announced | moving | reversing
  deriving DecidableEq, Repr

inductive Imaging where
  | notStarted | imaging | done
  deriving DecidableEq, Repr

inductive Disp where
  | deliver | purge | retain | remove
  deriving DecidableEq, Repr

/-- Lead position (R50): step index from 1, reference travel, offset in µm. -/
structure LeadPos where
  step : Nat
  ref : Travel
  offset : Int
  deriving DecidableEq, Repr

/-- Switchback depth with its reference travel (R50, R66). `refused` is the model's own (log 29): the increment at which the depth
first came to 0 or below, where R68 takes the return at a from node without a working sensor, ended in REVERSAL. -/
structure Depth where
  value : Int
  ref : Travel
  refused : Bool
  deriving DecidableEq, Repr

inductive LeadKind where
  | travel | pick | remote
  deriving DecidableEq, Repr

/-- An open lead expectation (R73 to R75, R88). `budget` is `none` while unformed. -/
structure LeadExp where
  kind : LeadKind
  node : Nat
  zone : Nat
  ref : Travel
  lo : Nat
  hi : Nat
  margin : Nat
  budget : Option Nat
  elapsed : Nat
  /-- early and late of a remote window (R88); `none` until the zone has a nonzero speed -/
  times : Option (Nat × Nat)
  deriving DecidableEq, Repr

/-- An open trail expectation: a stay window (R81). -/
structure TrailExp where
  node : Nat
  zone : Nat
  ref : Travel
  hi : Nat
  margin : Nat
  budget : Option Nat
  deriving DecidableEq, Repr

/-- An entry of the arrivals under the body (R50), with the segment whose tolerances its stay window takes and whether it
was made at a switchback return (R81, R83). -/
structure Arrival where
  node : Nat
  zone : Nat
  stamp : Travel
  seg : Nat
  isReturn : Bool
  deriving DecidableEq, Repr

/-- Set part of a record (R50). -/
structure SetPart where
  slot : Nat
  number : Nat
  position : Nat
  last : Bool
  staple : Bool
  deriving DecidableEq, Repr

/-- Purge join (R50, R51): purge route `p`, join step `k`, and the lead step `j` at which it was set. -/
structure PurgeJoin where
  route : Nat
  step : Nat
  lead : Nat
  deriving DecidableEq, Repr

/-- A sheet record (R50). -/
structure Record where
  sheet : Nat
  job : Nat
  ordinal : Nat
  route : Nat
  unordered : Bool
  /-- media code, `none` for EXPLICIT -/
  media : Option Nat
  declared : Nat
  tolerance : Nat
  doubleMargin : Nat
  slip : Nat
  measured : Option Nat
  pageA : Nat
  pageB : Option Nat
  setPart : Option SetPart
  progress : Progress
  lead : LeadPos
  trailStep : Nat
  depth : Option Depth
  sideA : Option Imaging
  sideB : Option Imaging
  repick : Nat
  leadExp : Option LeadExp
  trailExp : Option TrailExp
  arrivals : List Arrival
  handOff : Bool
  purgeJoin : Option PurgeJoin
  disp : Option Disp
  deriving DecidableEq, Repr

structure Flt where
  list : List Record
  counter : Nat
  deriving DecidableEq, Repr

def Flt.reset : Flt where
  list := []
  counter := 1

/-! ## RCV: recovery (chapter 6) -/

/-- Path states, numbered in this order (R97, R193). -/
inductive PathState where
  | config | armed | running | halting | runout | clearing | resumable
  deriving DecidableEq, Repr

/-- Jam causes, in the order of R92 (LATE is one cause for travel and remote windows). -/
inductive Cause where
  | late | lateTime | early | stay | short | size | double | crowd | unexpected | reversal | misfeed | stall | gate
  | residual | cover | station | linkLost | power
  deriving DecidableEq, Repr

/-- A cause with the fields of R92. -/
structure JamCause where
  cause : Cause
  sheet : Option Nat
  node : Option Nat
  zone : Option Nat
  measured : Option Int
  bound : Option Int
  time : Nat
  deriving DecidableEq, Repr

/-- The jam record (R93). It is empty when `first` is absent. -/
structure JamRecord where
  first : Option JamCause
  second : Option JamCause
  areas : List Nat
  deriving DecidableEq, Repr

def JamRecord.empty : JamRecord where
  first := none
  second := none
  areas := []

/-- The model's own (log 74): what a second failure leaves to the other failures of its moment (R87, R93). `sheets` are the sheets
whose windows were judged as it was taken; they stand until the millisecond ends. `underway` says that the FLT event that it fell in
is still being performed; it is false between two steps. -/
structure Moment where
  sheets : List Nat
  underway : Bool
  deriving DecidableEq, Repr

def Moment.none : Moment where
  sheets := []
  underway := false

structure Rcv where
  path : PathState
  jam : JamRecord
  /-- held dispositions by sheet number (R117) -/
  held : List (Nat × Disp)
  /-- each zone's travel at the entry to CLEARING or RESUMABLE (R142) -/
  holdTravel : List Travel
  /-- the moment of the last second failure (log 74) -/
  moment : Moment
  deriving DecidableEq, Repr

def Rcv.reset : Rcv where
  path := .config
  jam := .empty
  held := []
  holdTravel := List.replicate 8 0
  moment := .none

/-! ## CLM: clearance (chapter 7) -/

inductive AreaStatus where
  | none | needed | checking | done
  deriving DecidableEq, Repr

structure AreaState where
  status : AreaStatus
  timer : Nat
  deriving DecidableEq, Repr

def AreaState.reset : AreaState where
  status := .none
  timer := 0

structure Clm where
  areas : List AreaState
  /-- the clearance list (R122) -/
  list : List Nat
  /-- areas whose immediate check is due (R128) -/
  due : List Nat
  deriving DecidableEq, Repr

def Clm.reset : Clm where
  areas := List.replicate 12 AreaState.reset
  list := []
  due := []

/-! ## RPQ: the reprint queue (chapter 7) -/

inductive SheetCause where
  | purged | removed | voided | snapshot
  deriving DecidableEq, Repr

/-- Reprint entries (R134). -/
inductive ReprintEntry where
  | sheet (cause : SheetCause) (sheet job ordinal dest pageA : Nat) (pageB : Option Nat) (set : Option (Nat × Nat))
  | set (job number first last : Nat)
  | overflow (job fromOrdinal : Nat)
  deriving DecidableEq, Repr

structure Rpq where
  queue : List ReprintEntry
  incomplete : Bool
  abandoned : List Nat
  /-- the step under way owes a REPRINT notice (R137) -/
  touched : Bool
  deriving DecidableEq, Repr

def Rpq.reset : Rpq where
  queue := []
  incomplete := false
  abandoned := []
  touched := false

/-! ## XLM: sets and stations (chapter 8) -/

/-- Set table entry (R145). -/
structure SetEntry where
  slot : Nat
  job : Nat
  number : Nat
  dest : Nat
  staple : Bool
  firstOrd : Nat
  lastAdmitted : Nat
  lastDelivered : Option Nat
  admitted : Nat
  handedOff : Nat
  compiled : Nat
  lastSeen : Bool
  closed : Bool
  deriving DecidableEq, Repr

/-- A hand-off (R155): sheet, set number with position, last flag and staple flag when the sheet has a set, and the bin. -/
structure HandOff where
  sheet : Nat
  set : Option SetPart
  bin : Option Nat
  deriving DecidableEq, Repr

/-- A set cancel (R155). -/
structure Cancel where
  number : Nat
  bin : Option Nat
  deriving DecidableEq, Repr

inductive LinkState where
  | absent | online | lost
  deriving DecidableEq, Repr

/-- State of one station (R153). -/
structure StationState where
  present : Bool
  presenceCount : Nat
  link : LinkState
  miss : Nat
  handOffs : List HandOff
  cancels : List Cancel
  jamFlag : Bool
  retry : Nat
  /-- covers 0..3 as last reported, true is OPEN -/
  covers : List Bool
  jamArea : Option Nat
  deriving DecidableEq, Repr

def StationState.reset : StationState where
  present := false
  presenceCount := 0
  link := .absent
  miss := 0
  handOffs := []
  cancels := []
  jamFlag := false
  retry := 0
  covers := List.replicate 4 false
  jamArea := none

/-- The POLL that awaits its reply (R155, R156), with the bytes sent after its address character. -/
structure Exchange where
  station : Nat
  handOffs : List HandOff
  cancels : List Cancel
  frame : List Byte
  deriving DecidableEq, Repr

structure Xlm where
  sets : List SetEntry
  /-- stations 1 to 3, in order -/
  stations : List StationState
  lastPolled : Nat
  /-- ms into the slot, 0 to 3 -/
  slot : Nat
  /-- characters of the POLL sent at the start of this slot, its address character among them; 0 in an idle slot (R152) -/
  pollChars : Nat
  exchange : Option Exchange
  deriving DecidableEq, Repr

def Xlm.reset : Xlm where
  sets := []
  stations := List.replicate 3 StationState.reset
  lastPolled := 3
  slot := 0
  pollChars := 0
  exchange := none

/-! ## SPM: supply and snapshot (chapter 9) -/

/-- What a snapshot was written for, numbered from 1 (R193). -/
inductive Trigger where
  | power | resetRequest | linkBreak
  deriving DecidableEq, Repr

/-- One row of the snapshot area; `whole` is false when its last write was cut off (R167). -/
structure Row where
  bytes : List Byte
  whole : Bool
  deriving DecidableEq, Repr

/-- What a row write operation is for (R167). -/
inductive OpKind where
  /-- a snapshot with its trigger, record count, set count and reprint entries not saved (R169) -/
  | snapshot (trigger : Trigger) (n m notSaved : Nat)
  /-- an invalidation (R171) -/
  | invalidate
  /-- SNAP_ADOPT, with the tag and the counts of its reply (R174) -/
  | adopt (tag : Byte) (sets sheets notSaved : Nat)
  /-- SNAP_DROP, with the tag of its reply (R175) -/
  | drop (tag : Byte)
  deriving DecidableEq, Repr

/-- A row write operation: the row writes that have not ended, the first being the one in progress or next to start. -/
structure RowOp where
  kind : OpKind
  writes : List (Nat × List Byte)
  deriving DecidableEq, Repr

structure Spm where
  warn : Bool
  warnTimer : Nat
  recTimer : Nat
  rows : List Row
  /-- marker state: true is COMPLETE -/
  marker : Bool
  pendingMark : Bool
  ops : List RowOp
  /-- tenths of a ms since the row write in progress began -/
  elapsed : Nat
  dropWait : Option Byte
  freeIx : Nat
  deriving DecidableEq, Repr

/-- A row never written (power-on content: DESIGN CHOICE, log 7). -/
def Row.blank : Row where
  bytes := List.replicate 16 0
  whole := true

def Spm.reset : Spm where
  warn := false
  warnTimer := 0
  recTimer := 0
  rows := List.replicate 64 Row.blank
  marker := false
  pendingMark := false
  ops := []
  elapsed := 0
  dropWait := none
  freeIx := 0

/-! ## CLK: command link, notices, lines (chapter 10) -/

/-- Status of a reply (R179). -/
inductive Status where
  | done | check | cut | length | kind | field | state | full | order | route | overrun | map | snapshotPending | unknownSheet
  deriving DecidableEq, Repr

/-- A reply (R179): the kind and tag of the reply frame, the status, the CLAMPED flag of DONE, and the bytes after them. -/
structure Reply where
  kind : Byte
  tag : Byte
  status : Status
  clamped : Bool
  fields : List Byte
  deriving DecidableEq, Repr

/-- The pending reply (R180): none, being formed, or formed. -/
inductive PendingReply where
  | none
  | forming (kind tag : Byte)
  | formed (r : Reply)
  deriving DecidableEq, Repr

/-- What a SENSOR notice's baseline was set by (R28). -/
inductive Setting where
  | arm | calibrate | tracking
  deriving DecidableEq, Repr

/-- Occasions of an AREA notice (R123). -/
inductive AreaOccasion where
  | listed | check | clear | blocked | reopened
  deriving DecidableEq, Repr

/-- Occasions of a STATION notice, with their detail (R162). -/
inductive StationOccasion where
  | present
  | absent
  /-- true: hand-off queue; false: replies -/
  | lost (byQueue : Bool)
  | returned
  | jam (flag : Bool) (area : Option Nat)
  | errorSheet (sheet : Nat)
  | errorSet (number : Nat)
  deriving DecidableEq, Repr

/-- Reset causes reported at start-up (R173). -/
inductive ResetCause where
  | powerOn | brownOut | resetRequest | linkBreak
  deriving DecidableEq, Repr

/-- Header fields of a snapshot (R168, R193). -/
structure Header where
  trigger : Nat
  path : Nat
  records : Nat
  sets : Nat
  notSaved : Nat
  incomplete : Bool
  deriving DecidableEq, Repr

/-- Notices, with the fields formed when they are posted (R183, R184). -/
inductive Notice where
  | start (cause : ResetCause) (rate : Nat) (header : Option Header)
  | jam (advisory : Bool) (record : JamRecord)
  | plan (deliver purge retain remove voided sets : Nat) (entered : PathState)
  | delivered (sheet job ordinal dest : Nat)
  | purged (sheet job ordinal bin : Nat)
  | removed (sheet job ordinal dest area : Nat)
  | area (area : Nat) (status : AreaStatus) (cover : Option Bool) (listLength : Nat) (occasion : AreaOccasion) (node : Option Nat)
  | ready (records entries : Nat) (incomplete : Bool)
  | repick (sheet job ordinal : Nat)
  | sensor (node : Nat) (before after : Health) (baseline : Nat) (setting : Setting)
  | station (station : Nat) (link : LinkState) (occasion : StationOccasion)
  | supply (warn snapshotStarted : Bool)
  | snapshot (trigger : Trigger) (records sets notSaved : Nat)
  | reprint (entries overflows : Nat) (incomplete : Bool)
  | voided (sheet job ordinal dest repick : Nat)
  deriving DecidableEq, Repr

/-- A frame on the transmitter: its bytes from kind to CRC, and whether its end makes the RESET request due (R187). -/
structure TxFrame where
  bytes : List Byte
  isReset : Bool
  deriving DecidableEq, Repr

/-- The receiver (R177): IDLE, or IN_FRAME with the bytes received so far, the kind first. -/
structure Receiver where
  inFrame : Bool
  bytes : List Byte
  /-- ms since the frame's last character -/
  gap : Nat
  deriving DecidableEq, Repr

def Receiver.idle : Receiver where
  inFrame := false
  bytes := []
  gap := 0

structure Clk where
  rx : Receiver
  reply : PendingReply
  /-- the overrun mark: kind and tag (R180) -/
  mark : Option (Byte × Byte)
  notices : List Notice
  lost : Bool
  tx : Option TxFrame
  enHalt : Nat
  enAttn : Nat
  enAux : Nat
  /-- the receiver passes over every frame because a reset is coming (R187, R188) -/
  deaf : Bool
  breakArmed : Bool
  breakCount : Nat
  rate : Nat
  deriving DecidableEq, Repr

/-- R180, R183, R185: no reply, no notice, the enable sets at their defaults. -/
def Clk.reset : Clk where
  rx := .idle
  reply := .none
  mark := none
  notices := []
  lost := false
  tx := none
  enHalt := 0x00F
  enAttn := 0x040
  enAux := 0x000
  deaf := false
  breakArmed := false
  breakCount := 0
  rate := 0

/-! ## Reset, timebase and pins -/

/-- Which reset came last (R166, R187, R188). -/
inductive ResetKind where
  | powerOn | brownOut | external | request | linkBreak
  deriving DecidableEq, Repr

structure Sys where
  /-- the part has started since the reset (R173) -/
  live : Bool
  kind : ResetKind
  cause : ResetCause
  /-- a reset that is due and waits for a row write (R170) -/
  resetWait : Option Trigger
  /-- the 1 ms timebase -/
  now : Nat
  deriving DecidableEq, Repr

def Sys.reset : Sys where
  live := false
  kind := .powerOn
  cause := .powerOn
  resetWait := none
  now := 0

/-- Input pins at the level last read; the world sets them and no reset does (log 6). -/
structure Pins where
  sensors : List Nat
  covers : List Bool
  feedback : List Bool
  presence : List Bool
  supplyLow : Bool
  rxHigh : Bool
  deriving DecidableEq, Repr

def Pins.powerOn : Pins where
  sensors := List.replicate 24 1023
  covers := List.replicate 8 false
  feedback := List.replicate 6 false
  presence := List.replicate 3 false
  supplyLow := false
  rxHigh := true

/-- Why a command stops the machine. The spec describes no event that stops the part (every request is answered or passed
over, every event has an effect), so there is no such reason: the type is empty. Nothing raises it; that is safe. -/
inductive Fault where
  deriving DecidableEq, Repr

/-- Why a command has no meaning in the model. -/
inductive Refusal where
  /-- raised by `exec`'s arm of a command that is not modelled; safe (the machine stops). No arm raises it. -/
  | notModelled (mnemonic : String)
  deriving DecidableEq, Repr

/-- The whole state. -/
structure State where
  pms : MapStore
  sfe : Sfe
  zdu : Zdu
  flt : Flt
  rcv : Rcv
  clm : Clm
  rpq : Rpq
  xlm : Xlm
  spm : Spm
  clk : Clk
  sys : Sys
  pins : Pins
  /-- the commands that wait, first in, first out -/
  pending : List Instr
  deriving DecidableEq, Repr

/-- The machine right after a power-on reset, held until START (R173's table of the state after every reset). -/
def State.reset : State where
  pms := .reset
  sfe := .reset
  zdu := .reset
  flt := .reset
  rcv := .reset
  clm := .reset
  rpq := .reset
  xlm := .reset
  spm := .reset
  clk := .reset
  sys := .reset
  pins := .powerOn
  pending := []

end Sys2Proof.Machine
end

