-- ==== Sys2Proof/Machine/Ops.lean ====
section
/-! DEFINITION. The named operations every block uses: arithmetic, bytes and the CRC, lookups in the map and the banks,
single-field updates, notices, replies, and the taking of a request. -/

namespace Sys2Proof.Machine

/-! ## Arithmetic (00_scope.md, Arithmetic) -/

/-- Quotient rounded up to the next whole number; 0 when the divisor is 0. -/
def ceilDiv (a b : Nat) : Nat := (a + (b - 1)) / b

/-- A value that saturates at 65535. -/
def sat16 (n : Nat) : Nat := min n 65535

/-- The difference of two travel values of one zone, read as a signed 32-bit number (R40). -/
def travelDiff (a b : Travel) : Int := (a - b).toInt

/-! ## Bytes, most significant first (R189, R191) -/

def u8 (n : Nat) : List Byte := [BitVec.ofNat 8 n]

def u16 (n : Nat) : List Byte := [BitVec.ofNat 8 (n / 256), BitVec.ofNat 8 n]

/-- Four bytes of a signed 32-bit number. -/
def i32 (z : Int) : List Byte :=
  let w := BitVec.ofInt 32 z
  [w.extractLsb' 24 8, w.extractLsb' 16 8, w.extractLsb' 8 8, w.extractLsb' 0 8]

def flag8 (b : Bool) : List Byte := if b then [1] else [0]

/-- An optional one-byte field: 0xFF marks it absent (R189). -/
def opt8 : Option Nat → List Byte
  | some n => u8 n
  | none => [0xFF]

/-- An optional two-byte field: 0xFFFF marks it absent (R189). -/
def opt16 : Option Nat → List Byte
  | some n => u16 n
  | none => [0xFF, 0xFF]

/-- An optional four-byte field; the absence value of four bytes is the model's (log 14). -/
def opt32 : Option Int → List Byte
  | some z => i32 z
  | none => [0xFF, 0xFF, 0xFF, 0xFF]

/-- A list, preceded by a 1-byte count of its entries (R191). -/
def list8 (xs : List (List Byte)) : List Byte := u8 xs.length ++ xs.flatten

/-- The longest prefix of `xs` whose bytes fit in `room` (R5, R33, R72, R176: "as many as fit in one reply payload"). -/
def fitting (room : Nat) : List (List Byte) → List (List Byte)
  | [] => []
  | x :: xs => if x.length ≤ room then x :: fitting (room - x.length) xs else []

/-- The number two bytes spell. -/
def be16 (hi lo : Byte) : Nat := hi.toNat * 256 + lo.toNat

/-- One bit of the CRC-8 with polynomial x⁸ + x² + x + 1, most significant bit first (R152, R178). -/
def crcBit (c : Byte) : Byte := if c.msb then (c <<< 1) ^^^ 0x07 else c <<< 1

def crcByte (c b : Byte) : Byte :=
  crcBit (crcBit (crcBit (crcBit (crcBit (crcBit (crcBit (crcBit (c ^^^ b))))))))

/-- The CRC-8, initial value 0. -/
def crc8 (bs : List Byte) : Byte := bs.foldl crcByte 0

/-! ## Lookups -/

/-- The entry of a map table, `none` when undefined or past its end. -/
def entryAt {α : Type} (t : List (Option α)) (i : Nat) : Option α := (t[i]?).join

def MapStore.node? (m : MapStore) (i : Nat) : Option NodeEntry := entryAt m.nodes i
def MapStore.seg? (m : MapStore) (i : Nat) : Option SegEntry := entryAt m.segs i
def MapStore.route? (m : MapStore) (i : Nat) : Option RouteEntry := entryAt m.routes i
def MapStore.area? (m : MapStore) (i : Nat) : Option AreaEntry := entryAt m.areas i
def MapStore.zone? (m : MapStore) (i : Nat) : Option ZoneEntry := entryAt m.zones i
def MapStore.gate? (m : MapStore) (i : Nat) : Option GateEntry := entryAt m.gates i
def MapStore.media? (m : MapStore) (i : Nat) : Option MediaEntry := entryAt m.media i

/-- The defined entries of a table with their indices, in index order. -/
def definedEntries {α : Type} (t : List (Option α)) : List (Nat × α) :=
  (List.range t.length).filterMap fun i => (entryAt t i).map fun e => (i, e)

def zoneAt (s : State) (z : Nat) : ZoneState := (s.zdu.zones[z]?).getD (ZoneState.reset 0)
def gateAt (s : State) (g : Nat) : GateState := (s.zdu.gates[g]?).getD GateState.reset
def nodeAt (s : State) (n : Nat) : NodeState := (s.sfe.nodes[n]?).getD NodeState.reset
def areaAt (s : State) (a : Nat) : AreaState := (s.clm.areas[a]?).getD AreaState.reset
/-- Station `k` of 1 to 3. -/
def stationAt (s : State) (k : Nat) : StationState := (s.xlm.stations[k - 1]?).getD StationState.reset
def travelOf (s : State) (z : Nat) : Travel := (zoneAt s z).travel
def speedOf (s : State) (z : Nat) : Nat := (zoneAt s z).speed
/-- The feedback reading of gate `e`'s feedback line (R32). -/
def readingOf (s : State) (e : GateEntry) : Bool := (s.sfe.feedback[e.fbLine]?).getD false

def findRec (s : State) (sheet : Nat) : Option Record := s.flt.list.find? fun r => r.sheet == sheet

/-- The sheet numbers of the flight list, in list order. -/
def sheetsOf (s : State) : List Nat := s.flt.list.map (·.sheet)

/-! ## Single updates -/

def setZone (z : Nat) (v : ZoneState) (s : State) : State :=
  { s with zdu := { s.zdu with zones := s.zdu.zones.set z v } }

def setGate (g : Nat) (v : GateState) (s : State) : State :=
  { s with zdu := { s.zdu with gates := s.zdu.gates.set g v } }

def setArmTest (v : Option ArmTest) (s : State) : State :=
  { s with zdu := { s.zdu with armTest := v } }

def setQuiet (v : Nat) (s : State) : State := { s with zdu := { s.zdu with quiet := v } }

def setNode (n : Nat) (v : NodeState) (s : State) : State :=
  { s with sfe := { s.sfe with nodes := s.sfe.nodes.set n v } }

def setCalib (v : Option Calibration) (s : State) : State := { s with sfe := { s.sfe with calib := v } }

def setArea (a : Nat) (v : AreaState) (s : State) : State :=
  { s with clm := { s.clm with areas := s.clm.areas.set a v } }

def setClearance (v : List Nat) (s : State) : State := { s with clm := { s.clm with list := v } }

def setDue (v : List Nat) (s : State) : State := { s with clm := { s.clm with due := v } }

def setStation (k : Nat) (v : StationState) (s : State) : State :=
  { s with xlm := { s.xlm with stations := s.xlm.stations.set (k - 1) v } }

def setSets (v : List SetEntry) (s : State) : State := { s with xlm := { s.xlm with sets := v } }

def setExchange (v : Option Exchange) (s : State) : State := { s with xlm := { s.xlm with exchange := v } }

def setList (v : List Record) (s : State) : State := { s with flt := { s.flt with list := v } }

/-- Replaces the record with `r`'s sheet number, wherever it stands. -/
def putRec (r : Record) (s : State) : State :=
  setList (s.flt.list.map fun q => if q.sheet = r.sheet then r else q) s

def dropRec (sheet : Nat) (s : State) : State := setList (s.flt.list.filter fun q => q.sheet ≠ sheet) s

def setPath (p : PathState) (s : State) : State := { s with rcv := { s.rcv with path := p } }

def setJam (j : JamRecord) (s : State) : State := { s with rcv := { s.rcv with jam := j } }

def setHeld (h : List (Nat × Disp)) (s : State) : State := { s with rcv := { s.rcv with held := h } }

def setMoment (m : Moment) (s : State) : State := { s with rcv := { s.rcv with moment := m } }

def setRpq (v : Rpq) (s : State) : State := { s with rpq := v }

def setSpm (v : Spm) (s : State) : State := { s with spm := v }

def setClk (v : Clk) (s : State) : State := { s with clk := v }

/-! ## Notices and replies -/

/-- A notice joins the queue's tail, or is discarded and sets LOST when the queue is full (R183). -/
def post (n : Notice) (s : State) : State :=
  if s.clk.notices.length < Config.maxNotices then
    { s with clk := { s.clk with notices := s.clk.notices ++ [n] } }
  else
    { s with clk := { s.clk with lost := true } }

/-- The kind of the reply to a frame of a kind (R178). -/
def replyKind (kind : Byte) : Byte := if 0x01 ≤ kind ∧ kind ≤ 0x3F then kind + 0x40 else 0x7F

/-- Forms the reply to the request `kind`, `tag` (R179, R180). -/
def answer (kind tag : Byte) (status : Status) (clamped : Bool) (fields : List Byte) (s : State) : State :=
  { s with clk := { s.clk with reply := .formed ⟨replyKind kind, tag, status, clamped, fields⟩ } }

def done (kind tag : Byte) (fields : List Byte) (s : State) : State := answer kind tag .done false fields s

def refuse (kind tag : Byte) (why : Status) (s : State) : State := answer kind tag why false [] s

/-- The reply is being formed and will be formed by a later event (R180). -/
def replyLater (kind tag : Byte) (s : State) : State :=
  { s with clk := { s.clk with reply := .forming kind tag } }

/-- The FLT event that is being performed ends: what is taken after it finds the path state it left (log 74). -/
def closeEvent (s : State) : State := setMoment { s.rcv.moment with underway := false } s

/-- The REPRINT notice of a step that changed the queue follows every other notice of the step (R137). -/
def postReprint (s : State) : State :=
  if s.rpq.touched then
    post (.reprint s.rpq.queue.length
        (s.rpq.queue.countP fun e => match e with | .overflow _ _ => true | _ => false) s.rpq.incomplete)
      (setRpq { s.rpq with touched := false } s)
  else s

/-- The end of a step. -/
def finish (s : State) : State := postReprint (closeEvent s)

/-- Characters on the receive line show that it has been read high, so break detection runs (R188). -/
def hear (s : State) : State :=
  { s with
    pins := { s.pins with rxHigh := true }
    clk := { s.clk with breakArmed := true, breakCount := 0 } }

/-- A judged frame that would be answered (R180): performed when no reply is pending, otherwise held in the overrun mark,
or dropped when the mark is already set. -/
def unlessPending (kind tag : Byte) (perform : State → State) (s : State) : State :=
  match s.clk.reply, s.clk.mark with
  | .none, _ => perform s
  | _, none => { s with clk := { s.clk with mark := some (kind, tag) } }
  | _, some _ => s

/-- The frame in progress is cut (R177): dropped before its tag arrived, else answered REFUSED(CUT) (R178). -/
def cutFrame (s : State) : State :=
  let r := s.clk.rx
  let s := { s with clk := { s.clk with rx := .idle } }
  match r.inFrame, r.bytes with
  | true, kind :: tag :: _ => if s.clk.deaf then s else unlessPending kind tag (refuse kind tag .cut) s
  | _, _ => s

/-- A request row: one complete valid frame. It is passed over while the part is held in reset (R173) and while a reset
is coming (R187, R188); its first character cuts a frame in progress (R177); and it meets the overrun rule (R180).
Otherwise the owning block performs it. -/
def takeRequest (kind tag : Byte) (perform : State → State) (s : State) : State :=
  if s.sys.live then
    let s := cutFrame (hear s)
    if s.clk.deaf then s else unlessPending kind tag (fun s => finish (perform s)) s
  else s

/-- An event row: nothing but the pins moves while the part is held in reset. -/
def takeEvent (perform : State → State) (s : State) : State :=
  if s.sys.live then finish (perform s) else s

/-- Request kinds of the catalogue (R178). -/
def kIDENT : Byte := 0x01
def kRESET : Byte := 0x02
def kMAP_PUT : Byte := 0x03
def kMAP_GET : Byte := 0x04
def kARM : Byte := 0x05
def kDISARM : Byte := 0x06
def kCALIBRATE : Byte := 0x07
def kSPEED : Byte := 0x08
def kGATE : Byte := 0x09
def kSHEET_S : Byte := 0x0A
def kSHEET_F : Byte := 0x0B
def kRESUME : Byte := 0x0C
def kABANDON : Byte := 0x0D
def kTAKE : Byte := 0x0E
def kQUERY : Byte := 0x0F
def kLINES : Byte := 0x10
def kSNAP_ADOPT : Byte := 0x11
def kSNAP_DROP : Byte := 0x12

/-! ## Codes of enumerated values, numbered in the order of their lists (R191, R193) -/

def PathState.code : PathState → Nat
  | .config => 0 | .armed => 1 | .running => 2 | .halting => 3 | .runout => 4 | .clearing => 5 | .resumable => 6

def Status.code : Status → Nat
  | .done => 0x00 | .check => 0x01 | .cut => 0x02 | .length => 0x03 | .kind => 0x04 | .field => 0x05 | .state => 0x06
  | .full => 0x07 | .order => 0x08 | .route => 0x09 | .overrun => 0x0A | .map => 0x0B | .snapshotPending => 0x0C
  | .unknownSheet => 0x0D

/-- Jam causes numbered from 0 in the order of R92's table (log 15). -/
def Cause.code : Cause → Nat
  | .late => 0 | .lateTime => 1 | .early => 2 | .stay => 3 | .short => 4 | .size => 5 | .double => 6 | .crowd => 7
  | .unexpected => 8 | .reversal => 9 | .misfeed => 10 | .stall => 11 | .gate => 12 | .residual => 13 | .cover => 14
  | .station => 15 | .linkLost => 16 | .power => 17

def NodeKind.code : NodeKind → Nat
  | .sensor => 0 | .mark => 1 | .transfer => 2 | .remote => 3 | .dest => 4

def SegKind.code : SegKind → Nat
  | .feed => 0 | .path => 1 | .reverse => 2 | .remote => 3

def Level.code : Level → Nat
  | .unset => 0 | .clear => 1 | .covered => 2

def Health.code : Health → Nat
  | .ok => 0 | .degraded => 1 | .failed => 2

def Dir.code : Dir → Nat
  | .forward => 0 | .reverse => 1

/-- The codes of the GATE request (R190): NONE is RELEASE, 2. -/
def posCode : Option Bool → Nat
  | some false => 0 | some true => 1 | none => 2

def GateStatus.code : GateStatus → Nat
  | .undriven => 0 | .moving => 1 | .confirmed => 2

def Progress.code : Progress → Nat
  | .announced => 0 | .moving => 1 | .reversing => 2

def Imaging.code : Imaging → Nat
  | .notStarted => 0 | .imaging => 1 | .done => 2

def Disp.code : Disp → Nat
  | .deliver => 0 | .purge => 1 | .retain => 2 | .remove => 3

def AreaStatus.code : AreaStatus → Nat
  | .none => 0 | .needed => 1 | .checking => 2 | .done => 3

def AreaOccasion.code : AreaOccasion → Nat
  | .listed => 0 | .check => 1 | .clear => 2 | .blocked => 3 | .reopened => 4

def LinkState.code : LinkState → Nat
  | .absent => 0 | .online => 1 | .lost => 2

def Setting.code : Setting → Nat
  | .arm => 0 | .calibrate => 1 | .tracking => 2

def ResetCause.code : ResetCause → Nat
  | .powerOn => 0 | .brownOut => 1 | .resetRequest => 2 | .linkBreak => 3

/-- Triggers are numbered from 1 (R193). -/
def Trigger.code : Trigger → Nat
  | .power => 1 | .resetRequest => 2 | .linkBreak => 3

/-- Failure codes of the validation at ARM (R17). -/
def cUNDEFINED : Nat := 1
def cMISSING : Nat := 2
def cORPHAN : Nat := 3
def cZONE_CONFLICT : Nat := 4
def cREMOTE_KIND : Nat := 5
def cPURGE_FLAG : Nat := 6
def cPURGE_BIN : Nat := 7
def cPURGE_STEP : Nat := 8
def cFEED_PLACE : Nat := 9
def cBROKEN : Nat := 10
def cNO_DEST : Nat := 11
def cGATE_BRANCH : Nat := 12
def cREVERSE_EXIT : Nat := 13
def cTRANSFER_COUNT : Nat := 14
def cGATE_TEST : Nat := 15

end Sys2Proof.Machine
end

