-- ==== Sys2Proof/Machine/Path.lean ====
section
/-! DEFINITION. Where sheets lie: paths, bodies, nodes and areas of records, what a route needs, and the cover states
(chapters 1, 4 and 7). Everything here reads and nothing here writes. -/

namespace Sys2Proof.Machine

/-! ## Nodes and segments -/

def nodeKind (m : MapStore) (n : Nat) : Option NodeKind := (m.node? n).map (·.kind)

/-- A SENSOR node in service: a FAILED one is a MARK in every respect (R7). -/
def working (s : State) (n : Nat) : Bool :=
  nodeKind s.pms n = some .sensor && (nodeAt s n).health != .failed

/-- A node whose crossing follows the mark rule of the lead (R63): MARK, TRANSFER or a FAILED SENSOR. -/
def markLike (s : State) (n : Nat) : Bool :=
  match nodeKind s.pms n with
  | some .mark | some .transfer => true
  | some .sensor => (nodeAt s n).health == .failed
  | _ => false

/-- The station a node needs (R12): of a REMOTE node, or of a station destination. -/
def stationOfNode (m : MapStore) (n : Nat) : Option Nat :=
  match m.node? n with
  | some e => if e.kind = .remote ∨ e.kind = .dest then e.station else none
  | none => none

/-- The zone of the segments ending at a node: that of the lowest-indexed one (R22). -/
def nodeZone (m : MapStore) (n : Nat) : Option Nat :=
  ((definedEntries m.segs).find? fun p => p.2.dst == n).map fun p => p.2.zone

def nodeArea (m : MapStore) (n : Nat) : Option Nat := (m.node? n).map (·.area)

/-- Sensor node named by an input line (R6: at most one). -/
def nodeOfLine (m : MapStore) (line : Nat) : Option Nat :=
  ((definedEntries m.nodes).find? fun p => p.2.kind == .sensor && p.2.line == some line).map (·.1)

/-- The defined SENSOR nodes, in node order. -/
def sensorNodes (m : MapStore) : List (Nat × NodeEntry) :=
  (definedEntries m.nodes).filter fun p => p.2.kind == .sensor

/-! ## Routes and paths -/

/-- The node a list of steps ends at. -/
def endOf (m : MapStore) (steps : List Nat) : Option Nat :=
  (steps.getLast?.bind m.seg?).map (·.dst)

def routeSteps (m : MapStore) (route : Nat) : List Nat := ((m.route? route).map (·.steps)).getD []

/-- A route's destination (R10). -/
def routeDest (m : MapStore) (route : Nat) : Nat := (endOf m (routeSteps m route)).getD 0

/-- The steps whose to node is a TRANSFER node: the sides a route images (R10). -/
def transferCount (m : MapStore) (steps : List Nat) : Nat :=
  steps.countP fun i => ((m.seg? i).bind fun e => nodeKind m e.dst) == some .transfer

/-- Steps of a record joined onto purge route `p` at its step `k`, from its own step `j` (R51). -/
def joinedSteps (m : MapStore) (steps : List Nat) (p k j : Nat) : List Nat :=
  steps.take (j - 1) ++ (routeSteps m p).drop (k - 1)

/-- A record's path (R51). -/
def pathOf (m : MapStore) (r : Record) : List Nat :=
  match r.purgeJoin with
  | none => routeSteps m r.route
  | some j => joinedSteps m (routeSteps m r.route) j.route j.step j.lead

/-- The segment number of step `i` (from 1) of a list of steps. -/
def stepNo (steps : List Nat) (i : Nat) : Option Nat := if i = 0 then none else steps[i - 1]?

/-- The segment of step `i` of a record's path. -/
def stepSeg (m : MapStore) (r : Record) (i : Nat) : Option SegEntry := (stepNo (pathOf m r) i).bind m.seg?

def leadSeg (m : MapStore) (r : Record) : Option SegEntry := stepSeg m r r.lead.step

/-- A stream: job tag and destination node of the route (R57). -/
def streamOf (m : MapStore) (r : Record) : Nat × Nat := (r.job, routeDest m r.route)

/-- Sheet length in 0.1 mm: measured once present, declared before (R64). -/
def lengthOf (r : Record) : Nat := r.measured.getD r.declared

/-! ## Bodies -/

/-- The steps of the path from the trail step to the lead step (R51). -/
def bodySteps (m : MapStore) (r : Record) : List Nat :=
  ((pathOf m r).drop (r.trailStep - 1)).take (r.lead.step + 1 - r.trailStep)

/-- The nodes a record's body lies over (R51): each step after the trail step began at a node the lead has passed. -/
def bodyNodes (m : MapStore) (r : Record) : List Nat :=
  (((pathOf m r).drop r.trailStep).take (r.lead.step - r.trailStep)).filterMap fun i => (m.seg? i).map (·.src)

def touchesSeg (m : MapStore) (r : Record) (i : Nat) : Bool := (bodySteps m r).contains i

def liesOver (m : MapStore) (r : Record) (n : Nat) : Bool := (bodyNodes m r).contains n

/-- A set of areas as its ascending list without duplicates. -/
def areaSet (p : Nat → Bool) : List Nat := (List.range 12).filter p

/-- The areas a record's body touches (R51). -/
def bodyAreas (m : MapStore) (r : Record) : List Nat :=
  let as := (bodySteps m r).filterMap fun i => (m.seg? i).map (·.area)
  areaSet fun a => as.contains a

/-- The trail's next node (R64): the from node of the step after the trail step. -/
def trailNext (m : MapStore) (r : Record) : Option Nat := (stepSeg m r (r.trailStep + 1)).map (·.src)

/-- Length × 100 summed over the path steps from `i` on, `n` of them. -/
def spanLength (m : MapStore) (steps : List Nat) (i n : Nat) : Nat :=
  (((steps.drop (i - 1)).take n).map fun k => ((m.seg? k).map (·.len)).getD 0 * 100).sum

/-- The lead's distance past the trail's next node (R64). -/
def leadPast (m : MapStore) (r : Record) : Int :=
  (spanLength m (pathOf m r) (r.trailStep + 1) (r.lead.step - (r.trailStep + 1)) : Nat) + r.lead.offset

/-- Length of the lead's step × 100 minus its offset, with its sign (R61). -/
def remainingSigned (m : MapStore) (r : Record) : Int :=
  ((((leadSeg m r).map (·.len)).getD 0 * 100 : Nat) : Int) - r.lead.offset

/-- The first record of a list with the least value of `f` (ties go to the earlier record, R44, R61). -/
def nearest (f : Record → Int) : List Record → Option Record
  | [] => none
  | r :: rs =>
    match nearest f rs with
    | none => some r
    | some q => if f q < f r then some q else some r

/-! ## What a route needs (R12) -/

/-- Consecutive steps of a list of steps, from step `i` on. -/
def stepPairs (steps : List Nat) (i : Nat) : List (Nat × Nat) :=
  let l := steps.drop (i - 1)
  l.zip l.tail

/-- The position in which gate `e` must stand for next step `b`, when `b` is one of its position segments. -/
def wantedPos (e : GateEntry) (b : Nat) : Option Bool :=
  if b = e.seg0 then some false else if b = e.seg1 then some true else none

/-- Every gate the steps need from step `i` on is available: not FAULTED, or reading the position needed (R12). -/
def gatesAvailable (s : State) (steps : List Nat) (i : Nat) : Bool :=
  (definedEntries s.pms.gates).all fun (g, e) =>
    (stepPairs steps i).all fun (_, b) =>
      match s.pms.seg? b with
      | some sb =>
        if sb.src = e.node then
          match wantedPos e b with
          | some p => !(gateAt s g).faulted || readingOf s e == p
          | none => true
        else true
      | none => true

/-- The stations the steps need from step `i` on. -/
def stationsNeeded (m : MapStore) (steps : List Nat) (i : Nat) : List Nat :=
  (steps.drop (i - 1)).filterMap fun k => (m.seg? k).bind fun e => stationOfNode m e.dst

/-- A defined route without the PURGE flag is available for admission (R12). -/
def routeAvailable (s : State) (steps : List Nat) : Bool :=
  ((stationsNeeded s.pms steps 1).all fun k => (stationAt s k).link == .online) && gatesAvailable s steps 1

/-- A station is in use (R158), the destination of a set as the map now has it (log 76). -/
def stationInUse (s : State) (k : Nat) : Bool :=
  (s.flt.list.any fun r => (stationsNeeded s.pms (pathOf s.pms r) r.lead.step).contains k) ||
  (s.xlm.sets.any fun e => (s.pms.node? e.dest).bind (·.station) == some k)

/-! ## Covers (R13, R121) -/

/-- The state of a cover source: `none` for an area without a cover. -/
def sourceOpen (s : State) : CoverSource → Option Bool
  | .line l => some ((s.sfe.covers[l]?).getD false)
  | .station k c => some (((stationAt s k).covers[c]?).getD false)
  | .none => none

/-- The cover state of an area (R121), computed from its source. -/
def coverOf (s : State) (a : Nat) : Option Bool := (s.pms.area? a).bind fun e => sourceOpen s e.source

/-- The cover of an area counts as CLOSED (R121). -/
def coverClosed (s : State) (a : Nat) : Bool := coverOf s a != some true

/-- Every cover named by a defined area is CLOSED. -/
def allCoversClosed (s : State) : Bool := (definedEntries s.pms.areas).all fun (a, _) => coverClosed s a

/-- The defined areas whose cover source is `c`. -/
def areasOfCover (m : MapStore) (c : CoverSource) : List Nat :=
  areaSet fun a => (m.area? a).any fun e => e.source == c

/-- The clearance rank of an area (R13). -/
def rankOf (m : MapStore) (a : Nat) : Nat := ((m.area? a).map (·.rank)).getD 0

/-- An area whose source is a cover of a station that is not ONLINE (R128). -/
def offlineCover (s : State) (a : Nat) : Bool :=
  match s.pms.area? a with
  | some ⟨.station k _, _⟩ => (stationAt s k).link != .online
  | _ => false

def noCover (s : State) (a : Nat) : Bool := (s.pms.area? a).any fun e => e.source == .none

/-! ## Sensor levels (R18, R20) -/

/-- Cover level and clear level of a baseline (R20); absent without a parameter entry. -/
def levelsOf (m : MapStore) (baseline : Nat) : Option (Nat × Nat) :=
  m.params.map fun p => (baseline * p.coverPct / 100, baseline * p.clearPct / 100)

/-- A defined SENSOR node reads COVERED. -/
def covered (s : State) (n : Nat) : Bool :=
  nodeKind s.pms n = some .sensor && (nodeAt s n).level == .covered

def retained (r : Record) : Bool := r.disp == some .retain
def removing (r : Record) : Bool := r.disp == some .remove

/-- A body of a RETAIN record lies over the node. -/
def underRetained (s : State) (n : Nat) : Bool :=
  s.flt.list.any fun r => retained r && liesOver s.pms r n

def underRemoving (s : State) (n : Nat) : Bool :=
  s.flt.list.any fun r => removing r && liesOver s.pms r n

/-- A covered SENSOR node that no RETAIN body explains (R122, R141). -/
def unexplained (s : State) (n : Nat) : Bool := covered s n && !underRetained s n

end Sys2Proof.Machine
end

