-- ==== Sys2Proof/Machine/Operands.lean ====
section
/-! DEFINITION. The layouts of chapter 10: entries of the map tables, request payloads, replies, notices, reprint entries,
snapshot rows and the frames of the expansion link. -/

namespace Sys2Proof.Machine

/-! ## Frames (R177, R179) -/

/-- A frame's bytes, from its kind to its CRC byte. -/
def frameBytes (kind tag : Byte) (payload : List Byte) : List Byte :=
  let body := kind :: tag :: BitVec.ofNat 8 payload.length :: payload
  body ++ [crc8 body]

/-- The characters of a frame: the kind with its ninth bit set (R177). -/
def frameChars (kind tag : Byte) (payload : List Byte) : List RxChar :=
  match frameBytes kind tag payload with
  | [] => []
  | b :: bs => ⟨true, true, b⟩ :: bs.map fun x => ⟨true, false, x⟩

/-- Status byte, then the flags byte after DONE, then the fields (R179). -/
def Reply.payload (r : Reply) : List Byte :=
  u8 r.status.code ++ (if r.status = .done then flag8 r.clamped else []) ++ r.fields

def Reply.bytes (r : Reply) : List Byte := frameBytes r.kind r.tag r.payload

/-! ## Fields -/

def within (lo hi n : Nat) : Option Nat := if lo ≤ n ∧ n ≤ hi then some n else none

def boolOf : Nat → Option Bool
  | 0 => some false
  | 1 => some true
  | _ => none

/-- A one-byte field that entries of some kinds carry: a value there, absent elsewhere (R3, R6, R189). -/
def carried8 {α : Type} (carried : Bool) (b : Byte) (f : Nat → Option α) : Option (Option α) :=
  if carried then (f b.toNat).map some else if b = 0xFF then some none else none

def carried16 {α : Type} (carried : Bool) (hi lo : Byte) (f : Nat → Option α) : Option (Option α) :=
  if carried then (f (be16 hi lo)).map some else if be16 hi lo = 0xFFFF then some none else none

/-! ## Map entries (R4, R6, R8, R10, R13 to R16, R189) -/

/-- Parameter entry, clamped, and whether clamping changed a value (R4). -/
def decodeParams : List Byte → Option (Params × Bool)
  | [g1, g0, cv, cl] => do
    let g ← within 0 2000 (be16 g1 g0)
    let cover := min (max cv.toNat 20) 80
    let clear := min (max cl.toNat (cover + 10)) 95
    return (⟨g, cover, clear⟩, cover != cv.toNat || clear != cl.toNat)
  | _ => none

def nodeKindOf : Nat → Option NodeKind
  | 0 => some .sensor | 1 => some .mark | 2 => some .transfer | 3 => some .remote | 4 => some .dest | _ => none

/-- Node entry with its presence rules (R6). -/
def decodeNode : List Byte → Option NodeEntry
  | [k, a, l, c1, c0, me, pb, st, ln] => do
    let kind ← nodeKindOf k.toNat
    let area ← within 0 11 a.toNat
    let sensor := kind = .sensor
    let line ← carried8 sensor l (within 0 23)
    let clearLevel ← carried16 sensor c1 c0 (within 0 1023)
    let measure ← carried8 sensor me boolOf
    let purgeBin ← carried8 (kind = .dest) pb boolOf
    let stationed := kind = .remote ∨ (kind = .dest ∧ st ≠ 0xFF)
    let station ← carried8 stationed st (within 1 3)
    let localNo ← carried8 stationed ln (within 0 7)
    if kind = .dest ∧ station ≠ none ∧ purgeBin = some true then none
    else return ⟨kind, area, line, clearLevel, measure, purgeBin, station, localNo⟩
  | _ => none

def segKindOf : Nat → Option SegKind
  | 0 => some .feed | 1 => some .path | 2 => some .reverse | 3 => some .remote | _ => none

/-- Segment entry (R8). -/
def decodeSeg : List Byte → Option SegEntry
  | [f, t, l1, l0, z, a, k, e1, e0, t1, t0, mg, ro, lp, pr] => do
    let src ← within 0 31 f.toNat
    let dst ← within 0 31 t.toNat
    if src = dst then none else
    let len ← within 10 20000 (be16 l1 l0)
    let zone ← within 0 7 z.toNat
    let area ← within 0 11 a.toNat
    let kind ← segKindOf k.toNat
    let early ← within 0 500 (be16 e1 e0)
    let late ← within 0 500 (be16 t1 t0)
    let retainOk ← boolOf ro.toNat
    let loop ← boolOf lp.toNat
    let purgeRoute ← carried8 (pr ≠ 0xFF) pr (within 0 15)
    return ⟨src, dst, len, zone, area, kind, early, late, mg.toNat, retainOk, loop, purgeRoute⟩
  | _ => none

/-- Route entry (R10, R189): a step count, 20 segment bytes, the PURGE flag. A segment byte beyond the step count that is not
0xFF fails the entry (log 41). -/
def decodeRoute : List Byte → Option RouteEntry
  | c :: rest => do
    let n ← within 1 20 c.toNat
    if rest.length ≠ 21 then none else
    let steps := (rest.take n).map (·.toNat)
    let unused := (rest.drop n).take (20 - n)
    if steps.all (· ≤ 47) ∧ unused.all (· = 0xFF) then
      let p ← boolOf ((rest.getLast?.map (·.toNat)).getD 2)
      return ⟨steps, p⟩
    else none
  | [] => none

/-- Area entry (R13, R189). -/
def decodeArea : List Byte → Option AreaEntry
  | [k, x, y, r] => do
    let source ← (match k.toNat with
      | 0 => do
        let l ← within 0 7 x.toNat
        if y = 0xFF then return CoverSource.line l else none
      | 1 => do
        let st ← within 1 3 x.toNat
        let c ← within 0 3 y.toNat
        return CoverSource.station st c
      | 2 => if x = 0xFF ∧ y = 0xFF then some CoverSource.none else none
      | _ => none : Option CoverSource)
    let rank ← within 0 15 r.toNat
    return ⟨source, rank⟩
  | _ => none

/-- Zone entry (R14). -/
def decodeZone : List Byte → Option ZoneEntry
  | [a1, a0, b1, b0, c1, c0, p1, p0, s1, s0] => do
    let vmax ← within 20 1500 (be16 a1 a0)
    let vnom ← within 20 vmax (be16 b1 b0)
    let vfs ← within vmax 3000 (be16 c1 c0)
    let pitch ← within 1 2000 (be16 p1 p0)
    let stallTime ← within 10 500 (be16 s1 s0)
    return ⟨vmax, vnom, vfs, pitch, stallTime⟩
  | _ => none

/-- Gate entry (R15). -/
def decodeGate : List Byte → Option GateEntry
  | [n, p0, p1, sw, g1, g0, ol, fl] => do
    let node ← within 0 31 n.toNat
    let seg0 ← within 0 47 p0.toNat
    let seg1 ← within 0 47 p1.toNat
    if seg0 = seg1 then none else
    let switchTime ← within 5 200 sw.toNat
    let guard ← within 0 500 (be16 g1 g0)
    let outLine ← within 0 5 ol.toNat
    let fbLine ← within 0 5 fl.toNat
    return ⟨node, seg0, seg1, switchTime, guard, outLine, fbLine⟩
  | _ => none

/-- Media entry (R16). -/
def decodeMedia : List Byte → Option MediaEntry
  | [l1, l0, t, d1, d0, s, dx] => do
    let length ← within 500 20000 (be16 l1 l0)
    let tolerance ← within 0 100 t.toNat
    let doubleMargin ← within 50 2000 (be16 d1 d0)
    let slip ← within 0 200 s.toNat
    let duplex ← boolOf dx.toNat
    return ⟨length, tolerance, doubleMargin, slip, duplex⟩
  | _ => none

def encodeParams (p : Params) : List Byte := u16 p.minGap ++ u8 p.coverPct ++ u8 p.clearPct

def boolNat (b : Bool) : Nat := if b then 1 else 0

def encodeNode (e : NodeEntry) : List Byte :=
  u8 e.kind.code ++ u8 e.area ++ opt8 e.line ++ opt16 e.clearLevel ++ opt8 (e.measure.map boolNat) ++
  opt8 (e.purgeBin.map boolNat) ++ opt8 e.station ++ opt8 e.localNo

def encodeSeg (e : SegEntry) : List Byte :=
  u8 e.src ++ u8 e.dst ++ u16 e.len ++ u8 e.zone ++ u8 e.area ++ u8 e.kind.code ++ u16 e.early ++ u16 e.late ++
  u8 e.margin ++ flag8 e.retainOk ++ flag8 e.loop ++ opt8 e.purgeRoute

def encodeRoute (e : RouteEntry) : List Byte :=
  u8 e.steps.length ++ e.steps.flatMap u8 ++ List.replicate (20 - e.steps.length) 0xFF ++ flag8 e.purge

def encodeSource : CoverSource → List Byte
  | .line l => [0] ++ u8 l ++ [0xFF]
  | .station k c => [1] ++ u8 k ++ u8 c
  | .none => [2, 0xFF, 0xFF]

def encodeArea (e : AreaEntry) : List Byte := encodeSource e.source ++ u8 e.rank

def encodeZone (e : ZoneEntry) : List Byte :=
  u16 e.vmax ++ u16 e.vnom ++ u16 e.vfs ++ u16 e.pitch ++ u16 e.stallTime

def encodeGate (e : GateEntry) : List Byte :=
  u8 e.node ++ u8 e.seg0 ++ u8 e.seg1 ++ u8 e.switchTime ++ u16 e.guard ++ u8 e.outLine ++ u8 e.fbLine

def encodeMedia (e : MediaEntry) : List Byte :=
  u16 e.length ++ u8 e.tolerance ++ u16 e.doubleMargin ++ u8 e.slip ++ flag8 e.duplex

/-- Entries of each table (R1). -/
def tableSize : Nat → Nat
  | 0 => 1 | 1 => 32 | 2 => 48 | 3 => 16 | 4 => 12 | 5 => 8 | 6 => 6 | 7 => 16 | _ => 0

/-- Bytes of one entry of each table (R189). -/
def entryBytes : Nat → Nat
  | 0 => 4 | 1 => 9 | 2 => 15 | 3 => 22 | 4 => 4 | 5 => 10 | 6 => 8 | 7 => 7 | _ => 0

/-- `n` chunks of `size` bytes. -/
def chunks (size : Nat) : Nat → List Byte → List (List Byte)
  | 0, _ => []
  | n + 1, bs => bs.take size :: chunks size n (bs.drop size)

/-! ## Requests (R178, R182, R189, R190) -/

/-- What step 5 and step 6 of R178 make of a kind and a payload. -/
inductive Parsed where
  | badKind
  | badLength
  /-- a QUERY with an item code outside 1..12 (R182) -/
  | badItem
  | ok (i : Instr)
  deriving DecidableEq, Repr

/-- A SHEET_F field of two bytes that may be absent (R189). -/
def absent16 (hi lo : Byte) : Option Nat := if be16 hi lo = 0xFFFF then none else some (be16 hi lo)

/-- A request with no field, with one of a byte, with two of a byte each, and with one of two bytes: any other length is LENGTH. -/
def parse0 (i : Instr) : List Byte → Parsed
  | [] => .ok i
  | _ => .badLength

def parse1 (f : Nat → Instr) : List Byte → Parsed
  | [a] => .ok (f a.toNat)
  | _ => .badLength

def parse2 (f : Nat → Nat → Instr) : List Byte → Parsed
  | [a, b] => .ok (f a.toNat b.toNat)
  | _ => .badLength

def parseWord (f : Nat → Instr) : List Byte → Parsed
  | [hi, lo] => .ok (f (be16 hi lo))
  | _ => .badLength

/-- The arguments of a QUERY item (R182, R190). -/
def parseItem (tag : Byte) (item : Nat) (args : List Byte) : Parsed :=
  match item with
  | 1 => parse0 (.queryState tag) args
  | 2 => parseWord (.querySheet tag) args
  | 3 => parse1 (.queryFlight tag) args
  | 4 => parse0 (.queryAreas tag) args
  | 5 => parse1 (.queryZones tag) args
  | 6 => parse2 (.queryNodes tag) args
  | 7 => parse0 (.queryJam tag) args
  | 8 => parse1 (.querySets tag) args
  | 9 => parse0 (.queryReprint tag) args
  | 10 => parse0 (.queryLines tag) args
  | 11 => parse0 (.queryStations tag) args
  | 12 => parse2 (.querySnapshot tag) args
  | _ => .badItem

def parseQuery (tag : Byte) : List Byte → Parsed
  | item :: args => parseItem tag item.toNat args
  | [] => .badLength

/-- MAP_PUT's leading fields and its length (R2, R178). -/
def parseMapPut (tag : Byte) : List Byte → Parsed
  | t :: f :: c :: body =>
    if t.toNat ≤ 7 ∧ body.length ≠ c.toNat * entryBytes t.toNat then .badLength
    else .ok (.mapPut tag t.toNat f.toNat c.toNat body)
  | _ => .badLength

def parseMapGet (tag : Byte) : List Byte → Parsed
  | [t, f, c] => .ok (.mapGet tag t.toNat f.toNat c.toNat)
  | _ => .badLength

def parseSpeed (tag : Byte) : List Byte → Parsed
  | [z, v1, v0, d] => .ok (.speed tag z.toNat (be16 v1 v0) d.toNat)
  | _ => .badLength

def parseSheetS (tag : Byte) : List Byte → Parsed
  | [j, o1, o0, mr, a1, a0] => .ok (.sheetS tag j.toNat (be16 o1 o0) (mr.toNat / 16) (mr.toNat % 16) (be16 a1 a0))
  | _ => .badLength

def parseSheetF (tag : Byte) : List Byte → Parsed
  | [j, o1, o0, r, m, l1, l0, a1, a0, b1, b0, s1, s0, q1, q0, f] =>
    .ok (.sheetF tag j.toNat (be16 o1 o0) r.toNat m.toNat (be16 l1 l0) (be16 a1 a0) (absent16 b1 b0) (absent16 s1 s0)
      (be16 q1 q0) f.toNat)
  | _ => .badLength

def parseLines (tag : Byte) : List Byte → Parsed
  | [l, e1, e0] => .ok (.lines tag l.toNat (be16 e1 e0))
  | _ => .badLength

/-- The request that a kind and a payload spell. -/
def parseRequest (kind tag : Byte) (p : List Byte) : Parsed :=
  match kind.toNat with
  | 0x01 => parse0 (.ident tag) p
  | 0x02 => parse0 (.reset tag) p
  | 0x03 => parseMapPut tag p
  | 0x04 => parseMapGet tag p
  | 0x05 => parse0 (.arm tag) p
  | 0x06 => parse0 (.disarm tag) p
  | 0x07 => parse0 (.calibrate tag) p
  | 0x08 => parseSpeed tag p
  | 0x09 => parse2 (.gate tag) p
  | 0x0A => parseSheetS tag p
  | 0x0B => parseSheetF tag p
  | 0x0C => parse0 (.resume tag) p
  | 0x0D => parse1 (.abandon tag) p
  | 0x0E => parse1 (.take tag) p
  | 0x0F => parseQuery tag p
  | 0x10 => parseLines tag p
  | 0x11 => parse0 (.snapAdopt tag) p
  | 0x12 => parse0 (.snapDrop tag) p
  | _ => .badKind

/-- The kind, tag and payload of a request's frame (R189, R190); `none` for an event. -/
def encodeRequest : Instr → Option (Byte × Byte × List Byte)
  | .ident t => some (kIDENT, t, [])
  | .reset t => some (kRESET, t, [])
  | .mapPut t table first count body => some (kMAP_PUT, t, u8 table ++ u8 first ++ u8 count ++ body)
  | .mapGet t table first count => some (kMAP_GET, t, u8 table ++ u8 first ++ u8 count)
  | .arm t => some (kARM, t, [])
  | .disarm t => some (kDISARM, t, [])
  | .calibrate t => some (kCALIBRATE, t, [])
  | .speed t z v d => some (kSPEED, t, u8 z ++ u16 v ++ u8 d)
  | .gate t g p => some (kGATE, t, u8 g ++ u8 p)
  | .sheetS t j o m r a => some (kSHEET_S, t, u8 j ++ u16 o ++ u8 (m * 16 + r) ++ u16 a)
  | .sheetF t j o r m l a b sn sp f =>
    some (kSHEET_F, t, u8 j ++ u16 o ++ u8 r ++ u8 m ++ u16 l ++ u16 a ++ opt16 b ++ opt16 sn ++ u16 sp ++ u8 f)
  | .resume t => some (kRESUME, t, [])
  | .abandon t j => some (kABANDON, t, u8 j)
  | .take t n => some (kTAKE, t, u8 n)
  | .lines t l e => some (kLINES, t, u8 l ++ u16 e)
  | .snapAdopt t => some (kSNAP_ADOPT, t, [])
  | .snapDrop t => some (kSNAP_DROP, t, [])
  | .queryState t => some (kQUERY, t, u8 1)
  | .querySheet t n => some (kQUERY, t, u8 2 ++ u16 n)
  | .queryFlight t p => some (kQUERY, t, u8 3 ++ u8 p)
  | .queryAreas t => some (kQUERY, t, u8 4)
  | .queryZones t p => some (kQUERY, t, u8 5 ++ u8 p)
  | .queryNodes t f c => some (kQUERY, t, u8 6 ++ u8 f ++ u8 c)
  | .queryJam t => some (kQUERY, t, u8 7)
  | .querySets t p => some (kQUERY, t, u8 8 ++ u8 p)
  | .queryReprint t => some (kQUERY, t, u8 9)
  | .queryLines t => some (kQUERY, t, u8 10)
  | .queryStations t => some (kQUERY, t, u8 11)
  | .querySnapshot t f c => some (kQUERY, t, u8 12 ++ u8 f ++ u8 c)
  | .requestFrame _ | .frameGap | .transmitEnd | .linkBreak | .sensorEdge _ _ _ | .baselineTrack | .calibrateEnd
  | .coverEvent _ _ | .gateFeedback _ _ | .gateSwitchTimeout _ | .encoderEdge _ _ | .invalidStep _ | .stall _ | .standstill
  | .lateTime _ | .stay _ | .repick _ | .misfeed _ | .remoteLate _ | .areaCheck _ | .immediateCheck _ | .pollSlot
  | .stationReply _ _ | .badReply | .pollMiss | .stationPresent _ | .stationAbsent _ | .supplyWarn | .supplyNormal
  | .rowWriteEnd | .brownOut | .externalReset | .start _ _ _ => none

/-! ## Reprint entries (R192) -/

def SheetCause.form : SheetCause → Nat
  | .purged => 1 | .removed => 2 | .voided => 3 | .snapshot => 4

/-- A reprint entry (R192). The position of a SHEET entry with no set is sent as 0 (log 62). -/
def encodeEntry : ReprintEntry → List Byte
  | .sheet c sheet job ord dest a b set =>
    u8 c.form ++ u16 sheet ++ u8 job ++ u16 ord ++ u8 dest ++ u16 a ++ opt16 b ++ opt16 (set.map (·.1)) ++
    u16 ((set.map (·.2)).getD 0)
  | .set job n f l => u8 0x10 ++ u8 job ++ u16 n ++ u16 f ++ u16 l
  | .overflow job o => u8 0x20 ++ u8 job ++ u16 o

/-! ## Jam record (R92, R96; the order of the fields is the model's, log 14) -/

def encodeCause (c : JamCause) : List Byte :=
  u8 c.cause.code ++ opt16 c.sheet ++ opt8 c.node ++ opt8 c.zone ++ opt32 c.measured ++ opt32 c.bound ++ i32 c.time

def encodeSlot : Option JamCause → List Byte
  | some c => encodeCause c
  | none => [0xFF]

def encodeJam (j : JamRecord) : List Byte := encodeSlot j.first ++ encodeSlot j.second ++ list8 (j.areas.map u8)

/-! ## Notices (R183, R184) -/

def encodeHeader : Option Header → List Byte
  | some h => [1] ++ u8 h.trigger ++ u8 h.path ++ u8 h.records ++ u8 h.sets ++ u8 h.notSaved ++ flag8 h.incomplete
  | none => [0, 0xFF, 0xFF, 0xFF, 0xFF, 0xFF, 0xFF]

def encodeOccasion : StationOccasion → List Byte
  | .present => u8 0
  | .absent => u8 1
  | .lost q => u8 2 ++ flag8 q
  | .returned => u8 3
  | .jam f a => u8 4 ++ flag8 f ++ opt8 a
  | .errorSheet n => u8 5 ++ u16 n
  | .errorSet n => u8 5 ++ u16 n

def Notice.kind : Notice → Byte
  | .start _ _ _ => 0x80 | .jam _ _ => 0x81 | .plan _ _ _ _ _ _ _ => 0x82 | .delivered _ _ _ _ => 0x83
  | .purged _ _ _ _ => 0x84 | .removed _ _ _ _ _ => 0x85 | .area _ _ _ _ _ _ => 0x86 | .ready _ _ _ => 0x87
  | .repick _ _ _ => 0x88 | .sensor _ _ _ _ _ => 0x89 | .station _ _ _ => 0x8A | .supply _ _ => 0x8B
  | .snapshot _ _ _ _ => 0x8C | .reprint _ _ _ => 0x8D | .voided _ _ _ _ _ => 0x8E

/-- The flags byte (R183): LOST, advisory, error. -/
def Notice.flags (n : Notice) (lost : Bool) : Nat :=
  boolNat lost +
  (match n with
   | .jam true _ => 2
   | .station _ _ (.errorSheet _) | .station _ _ (.errorSet _) => 4
   | _ => 0)

def Notice.fields : Notice → List Byte
  | .start c rate h => u8 c.code ++ u8 rate ++ encodeHeader h
  | .jam _ j => encodeJam j
  | .plan d p rt rm v st e => u8 d ++ u8 p ++ u8 rt ++ u8 rm ++ u8 v ++ u8 st ++ u8 e.code
  | .delivered sh j o d => u16 sh ++ u8 j ++ u16 o ++ u8 d
  | .purged sh j o b => u16 sh ++ u8 j ++ u16 o ++ u8 b
  | .removed sh j o d a => u16 sh ++ u8 j ++ u16 o ++ u8 d ++ u8 a
  | .area a st cv len oc nd =>
    u8 a ++ u8 st.code ++ opt8 (cv.map fun o => if o then 0 else 1) ++ u8 len ++ u8 oc.code ++ opt8 nd
  | .ready r e i => u8 r ++ u8 e ++ flag8 i
  | .repick sh j o => u16 sh ++ u8 j ++ u16 o
  | .sensor n b a bl st => u8 n ++ u8 b.code ++ u8 a.code ++ u16 bl ++ u8 st.code
  | .station k l oc => u8 k ++ u8 l.code ++ encodeOccasion oc
  | .supply w sn => u8 (boolNat w) ++ flag8 sn
  | .snapshot t n m x => u8 t.code ++ u8 n ++ u8 m ++ u8 x
  | .reprint e o i => u8 e ++ u8 o ++ flag8 i
  | .voided sh j o d rp => u16 sh ++ u8 j ++ u16 o ++ u8 d ++ u8 rp

/-- The notice's frame: tag 0, and a payload that opens with the flags byte (R183). -/
def Notice.bytes (n : Notice) (lost : Bool) : List Byte :=
  frameBytes n.kind 0 (u8 (n.flags lost) ++ n.fields)

/-! ## Snapshot rows (R168, R193) -/

def padRow (bs : List Byte) : List Byte := (bs ++ List.replicate 16 0).take 16

def emptyRow : List Byte := List.replicate 16 0x00
def completeRow : List Byte := List.replicate 16 0xA5

/-- Two bits of a side's state (R193). -/
def sideBits : Option Imaging → Nat
  | none => 0 | some .notStarted => 1 | some .imaging => 2 | some .done => 3

def dispBits : Option Disp → Nat
  | none => 0 | some .deliver => 1 | some .purge => 2 | some .retain => 3 | some .remove => 4

def headerRow (h : Header) : List Byte :=
  padRow (u8 h.trigger ++ u8 h.path ++ u8 h.records ++ u8 h.sets ++ u8 h.notSaved ++ flag8 h.incomplete)

def sheetRow (m : MapStore) (r : Record) : List Byte :=
  padRow (u16 r.sheet ++ u8 r.job ++ u16 r.ordinal ++ u8 r.route ++ u8 (routeDest m r.route) ++ u16 r.pageA ++
    opt16 r.pageB ++ opt16 (r.setPart.map (·.number)) ++ u16 ((r.setPart.map (·.position)).getD 0) ++
    u8 (sideBits r.sideA * 64 + sideBits r.sideB * 16 + dispBits r.disp))

def setRow (e : SetEntry) : List Byte :=
  padRow (u8 e.job ++ u16 e.number ++ u8 e.dest ++
    u8 (boolNat e.staple + 2 * boolNat e.closed + 4 * boolNat e.lastDelivered.isSome) ++
    u16 e.firstOrd ++ u16 e.lastAdmitted ++ u16 (e.lastDelivered.getD 0) ++ u16 e.admitted ++ u16 e.compiled)

def byteAt (row : List Byte) (i : Nat) : Nat := ((row[i]?).map (·.toNat)).getD 0
def wordAt (row : List Byte) (i : Nat) : Nat := byteAt row i * 256 + byteAt row (i + 1)

def readHeader (row : List Byte) : Header where
  trigger := byteAt row 0
  path := byteAt row 1
  records := byteAt row 2
  sets := byteAt row 3
  notSaved := byteAt row 4
  incomplete := byteAt row 5 == 1

def optWord (n : Nat) : Option Nat := if n = 0xFFFF then none else some n

/-- The SHEET entry of a sheet row (R174). -/
def readSheetRow (row : List Byte) : ReprintEntry :=
  .sheet .snapshot (wordAt row 0) (byteAt row 2) (wordAt row 3) (byteAt row 6) (wordAt row 7) (optWord (wordAt row 9))
    ((optWord (wordAt row 11)).map fun n => (n, wordAt row 13))

/-- The SET entry of a set row whose compiled count is above 0 (R174). -/
def readSetRow (row : List Byte) : Option ReprintEntry :=
  if wordAt row 13 = 0 then none
  else some (.set (byteAt row 0) (wordAt row 1) (wordAt row 5)
    (if byteAt row 4 / 4 % 2 = 1 then wordAt row 9 else wordAt row 7))

/-! ## The expansion link (R152, R194) -/

/-- A hand-off of a POLL (R194). With no set its position and its flags are sent as 0 (log 63). -/
def encodeHandOff (h : HandOff) : List Byte :=
  u16 h.sheet ++ opt16 (h.set.map (·.number)) ++ u16 ((h.set.map (·.position)).getD 0) ++
  u8 ((h.set.map fun p => boolNat p.last + 2 * boolNat p.staple).getD 0) ++ opt8 h.bin

def encodeCancel (c : Cancel) : List Byte := u16 c.number ++ opt8 c.bin

/-- The bytes of a POLL after its address character: length, kind, payload, CRC. -/
def pollFrame (hs : List HandOff) (cs : List Cancel) : List Byte :=
  let payload := u8 (hs.length * 16 + cs.length) ++ hs.flatMap encodeHandOff ++ cs.flatMap encodeCancel
  let body := BitVec.ofNat 8 payload.length :: (0x01 : Byte) :: payload
  body ++ [crc8 body]

/-- An edge report of a REPLY (R157). -/
structure EdgeReport where
  trail : Bool
  node : Nat
  sheet : Nat
  age : Nat
  deriving DecidableEq, Repr

/-- What a REPLY carries (R157, R194). -/
structure StationReport where
  edges : List EdgeReport
  finals : List Nat
  /-- set number, compiled figure, phase DONE -/
  compile : Option (Nat × Nat × Bool)
  jamFlag : Bool
  jamArea : Nat
  /-- covers 0 to 3: not reported, or open -/
  covers : List (Option Bool)
  deriving DecidableEq, Repr

def parseEdges : Nat → List Byte → Option (List EdgeReport × List Byte)
  | 0, bs => some ([], bs)
  | n + 1, k :: s1 :: s0 :: a :: bs =>
    (parseEdges n bs).map fun (es, rest) => (⟨k.toNat / 128 = 1, k.toNat % 8, be16 s1 s0, a.toNat⟩ :: es, rest)
  | _ + 1, _ => none

def parseFinals : Nat → List Byte → Option (List Nat)
  | 0, [] => some []
  | 0, _ :: _ => none
  | n + 1, s1 :: s0 :: bs => (parseFinals n bs).map fun fs => be16 s1 s0 :: fs
  | _ + 1, _ => none

/-- Two bits of a station cover: 0 or 3 not reported, 1 CLOSED, 2 OPEN (R194). -/
def coverBits : Nat → Option Bool
  | 1 => some false | 2 => some true | _ => none

/-- The payload of a REPLY; `none` when its counts exceed their limits or disagree with its length (R194). -/
def parseReply : List Byte → Option StationReport
  | b0 :: b1 :: b2 :: rest =>
    let ne := b0.toNat / 16
    let nf := b0.toNat % 16
    let covers := [coverBits (b2.toNat / 64), coverBits (b2.toNat / 16 % 4), coverBits (b2.toNat / 4 % 4),
      coverBits (b2.toNat % 4)]
    let tail (compile : Option (Nat × Nat × Bool)) (bs : List Byte) : Option StationReport :=
      (parseEdges ne bs).bind fun (es, bs) => (parseFinals nf bs).map fun fs =>
        ⟨es, fs, compile, b1.toNat / 32 % 2 = 1, b1.toNat % 4, covers⟩
    if 8 < ne ∨ 4 < nf then none
    else if b1.toNat / 128 = 1 then
      match rest with
      | s1 :: s0 :: f1 :: f0 :: bs => tail (some (be16 s1 s0, be16 f1 f0, b1.toNat / 64 % 2 = 1)) bs
      | _ => none
    else tail none rest
  | _ => none

/-- The report of a REPLY frame whose length, CRC and kind are good (R156). -/
def readLinkFrame (f : LinkFrame) : Option StationReport :=
  if f.length.toNat = f.payload.length ∧ f.crc = crc8 (f.length :: f.kind :: f.payload) ∧ f.kind = 0x02 then
    parseReply f.payload
  else none

end Sys2Proof.Machine
end

