-- ==== Sys2Proof/Machine/Flags.lean ====
section
/-! DEFINITION. The sources of the output lines and the lines' levels (R185, R28, R167), and the expansion link's driver enable
(R152). -/

namespace Sys2Proof.Machine

/-- A local cover line is OPEN, or a station cover was last reported OPEN. -/
def anyCoverOpen (s : State) : Bool := s.sfe.covers.any id || s.xlm.stations.any fun k => k.covers.any id

def anyStationLost (s : State) : Bool := s.xlm.stations.any fun k => k.link == .lost

/-- A defined SENSOR node is DEGRADED or FAILED (R28). -/
def anySensorWeak (s : State) : Bool := (sensorNodes s.pms).any fun (n, _) => (nodeAt s n).health != .ok

/-- The ten sources, bit 0 first (R185). -/
def sources (s : State) : List Bool :=
  [ s.rcv.path == .config,
    s.rcv.path == .halting || s.rcv.path == .runout,
    s.rcv.path == .clearing,
    s.rcv.path == .resumable,
    anyCoverOpen s,
    s.spm.warn,
    !s.clk.notices.isEmpty,
    anyStationLost s,
    anySensorWeak s,
    !s.spm.ops.isEmpty ]

/-- Bits, the least significant first, as a number. -/
def ofBits : List Bool → Nat
  | [] => 0
  | b :: bs => boolNat b + 2 * ofBits bs

def sourceMask (s : State) : Nat := ofBits (sources s)

/-- A line is asserted while a source in its enable set is active; none is driven in reset (R185). -/
def asserted (s : State) (enable : Nat) : Bool := s.sys.live && (sourceMask s &&& enable != 0)

def haltAsserted (s : State) : Bool := asserted s s.clk.enHalt
def attnAsserted (s : State) : Bool := asserted s s.clk.enAttn
def auxAsserted (s : State) : Bool := asserted s s.clk.enAux

/-- The driver-enable output of the expansion link (R152): asserted over the POLL, from its address character to its CRC, at 11 bits
of 4 µs a character, whatever becomes of the exchange meanwhile. The slot clock counts whole milliseconds, so the output falls
at the first of them past the POLL's end (log 53). -/
def driverEnable (s : State) : Bool :=
  s.sys.live && decide (s.xlm.slot * 1000 < s.xlm.pollChars * 44)

end Sys2Proof.Machine
end

