-- ==== Sys2Proof/Machine/Reprint.lean ====
section
/-! DEFINITION. The reprint queue and the set table: how entries are offered (R135, R136) and how members join and leave
sets (R145 to R148). -/

namespace Sys2Proof.Machine

/-! ## Offering a reprint entry (R135) -/

def entryJob : ReprintEntry → Nat
  | .sheet _ _ j _ _ _ _ _ => j
  | .set j _ _ _ => j
  | .overflow j _ => j

/-- The ordinal of a SHEET entry, the first ordinal of a SET entry (R135). -/
def entryOrdinal : ReprintEntry → Nat
  | .sheet _ _ _ o _ _ _ _ => o
  | .set _ _ f _ => f
  | .overflow _ o => o

/-- Case 2: a SHEET entry with a set part whose ordinal a SET entry of the queue covers. -/
def coveredBySet (q : List ReprintEntry) : ReprintEntry → Bool
  | .sheet _ _ j o _ _ _ (some (n, _)) =>
    q.any fun e => match e with
      | .set j' n' f l => j' == j && n' == n && f ≤ o && o ≤ l
      | _ => false
  | _ => false

def hasOverflow (q : List ReprintEntry) (job : Nat) : Bool :=
  q.any fun e => match e with | .overflow j _ => j == job | _ => false

/-- Case 3: a lower ordinal lowers the from-ordinal of the job's OVERFLOW entry. -/
def fold (job o : Nat) (q : List ReprintEntry) : List ReprintEntry :=
  q.map fun e => match e with
    | .overflow j f => if j = job then .overflow j (min f o) else .overflow j f
    | e => e

/-- Offers an entry to the queue by the first case of R135 that applies. A fold or a loss owes a REPRINT notice also when the
from-ordinal or the flag stays as it was (R137, log 56). -/
def offer (e : ReprintEntry) (q : Rpq) : Rpq :=
  if q.abandoned.contains (entryJob e) then q
  else if coveredBySet q.queue e then q
  else if hasOverflow q.queue (entryJob e) then
    { q with queue := fold (entryJob e) (entryOrdinal e) q.queue, touched := true }
  else if q.queue.length + 1 < Config.maxReprint then { q with queue := q.queue ++ [e], touched := true }
  else if q.queue.length < Config.maxReprint then
    { q with queue := q.queue ++ [.overflow (entryJob e) (entryOrdinal e)], touched := true }
  else { q with incomplete := true, touched := true }

def offerEntry (e : ReprintEntry) (s : State) : State := setRpq (offer e s.rpq) s

/-- The SHEET entry of a record (R115, R130, R134): the destination is that of its original route. -/
def sheetEntry (m : MapStore) (c : SheetCause) (r : Record) : ReprintEntry :=
  .sheet c r.sheet r.job r.ordinal (routeDest m r.route) r.pageA r.pageB (r.setPart.map fun p => (p.number, p.position))

/-! ## The set table -/

/-- A record's set: the entry in its slot, provided its key is the record's (R145). -/
def setOf (s : State) (r : Record) : Option SetEntry :=
  r.setPart.bind fun p => s.xlm.sets.find? fun e => e.slot == p.slot && e.job == r.job && e.number == p.number

def findSet (s : State) (job number : Nat) : Option SetEntry :=
  s.xlm.sets.find? fun e => e.job == job && e.number == number

/-- The entry with `e`'s slot becomes `e`. -/
def putSet (e : SetEntry) (s : State) : State :=
  setSets (s.xlm.sets.map fun q => if q.slot = e.slot then e else q) s

def dropSet (slot : Nat) (s : State) : State := setSets (s.xlm.sets.filter fun q => q.slot ≠ slot) s

/-- The lowest free slot (R145). -/
def freeSlot (sets : List SetEntry) : Nat :=
  ((List.range Config.maxSets).find? fun i => !(sets.any fun e => e.slot == i)).getD 0

/-- Step 5 of an admission (R146): the slot of the member's set, and the table after it. The admitted count goes on past 65535
(DESIGN CHOICE, log 78). -/
def admitToSet (job number dest ordinal : Nat) (staple last : Bool) (s : State) : Nat × State :=
  match findSet s job number with
  | some e =>
    (e.slot, putSet { e with admitted := e.admitted + 1, lastAdmitted := ordinal, closed := last } s)
  | none =>
    let slot := freeSlot s.xlm.sets
    (slot, setSets (s.xlm.sets ++
      [⟨slot, job, number, dest, staple, ordinal, ordinal, none, 1, 0, 0, false, last⟩]) s)

/-- A hand-off taken by a queue advances its set (R147). The handed-off count goes on past 65535 (DESIGN CHOICE, log 78). -/
def countHandOff (r : Record) (s : State) : State :=
  match setOf s r with
  | some e =>
    putSet { e with
      handedOff := e.handedOff + 1
      lastSeen := e.lastSeen || (r.setPart.any fun p => p.last) } s
  | none => s

/-- A member that reached its station (R148). -/
def memberDelivered (r : Record) (s : State) : State :=
  match setOf s r with
  | some e =>
    putSet { e with lastDelivered := some (match e.lastDelivered with
      | some o => max o r.ordinal
      | none => r.ordinal) } s
  | none => s

/-- A member lost to its set: VOIDED, REMOVED or PURGED (R148). -/
def memberLost (r : Record) (s : State) : State :=
  match setOf s r with
  | some e =>
    let handed := if r.handOff then e.handedOff - 1 else e.handedOff
    let last := r.setPart.any fun p => p.last
    let e' : SetEntry := { e with
      admitted := e.admitted - 1
      handedOff := handed
      compiled := min e.compiled handed
      closed := if last then false else e.closed
      lastSeen := if last then false else e.lastSeen }
    if e'.admitted = 0 then dropSet e.slot s else putSet e' s
  | none => s

end Sys2Proof.Machine
end

