-- ==== Sys2Proof/Machine/Zones.lean ====
section
/-! DEFINITION. Window bounds and budgets (R74 to R76, R81, R88) and the driving of zones (R35 to R39). -/

namespace Sys2Proof.Machine

/-! ## Bounds and budgets -/

/-- The slip term of a length at `slip` permille, rounded up (R74, R81). -/
def slipTerm (len slip : Nat) : Nat := ceilDiv (len * slip) 10

/-- Lower bound of a lead window (R74). -/
def boundLo (len early : Nat) : Nat := (len - early) * 100

/-- Upper bound of a lead window (R74), and of a stay window over a sheet length (R81). -/
def boundHi (len late slip : Nat) : Nat := (len + late) * 100 + slipTerm len slip

/-- A remaining budget formed at speed `v` (R75, R76): unformed at speed 0, held at 65535. -/
def formBudget (hi : Nat) (run : Int) (margin v : Nat) : Option Nat :=
  if v = 0 then none else some (sat16 (ceilDiv ((hi : Int) - run).toNat v + margin))

/-- The distance a lead window's edge has run: nothing for a pick window (R75, R85). -/
def leadRun (s : State) (e : LeadExp) : Int :=
  match e.kind with
  | .pick => 0
  | .travel | .remote => travelDiff (travelOf s e.zone) e.ref

def trailRun (s : State) (e : TrailExp) : Int := travelDiff (travelOf s e.zone) e.ref

/-- Early and late of a remote window formed at speed `v` (R88); at their first forming the distance run counts as 0. -/
def formTimes (e : LeadExp) (run : Int) (v : Nat) : Option (Nat × Nat) :=
  if v = 0 then e.times
  else
    let d := if e.times = none then 0 else run
    some (sat16 (e.elapsed + ((e.lo : Int) - d).toNat / v), sat16 (e.elapsed + ceilDiv ((e.hi : Int) - d).toNat v + e.margin))

/-- A lead window after its zone's change to the nonzero speed `v` (R76, R88). -/
def reformLead (s : State) (z v : Nat) (e : LeadExp) : LeadExp :=
  if e.zone = z then
    match e.kind with
    | .remote => { e with times := formTimes e (leadRun s e) v }
    | .travel | .pick => { e with budget := formBudget e.hi (leadRun s e) e.margin v }
  else e

def reformTrail (s : State) (z v : Nat) (e : TrailExp) : TrailExp :=
  if e.zone = z then { e with budget := formBudget e.hi (trailRun s e) e.margin v } else e

/-- The FLT takes a speed change of zone `z` to `v` (R76): a change to 0 leaves every budget standing. -/
def speedChange (z v : Nat) (s : State) : State :=
  if v = 0 then s
  else setList (s.flt.list.map fun r =>
    { r with leadExp := r.leadExp.map (reformLead s z v), trailExp := r.trailExp.map (reformTrail s z v) }) s

/-! ## Driving zones -/

/-- Duty of a speed (R36). -/
def dutyOf (m : MapStore) (z v : Nat) : Nat :=
  match m.zone? z with
  | some e => v * 1000 / e.vfs
  | none => 0

/-- Sets a zone's speed and direction and derives its duty (R35, R36). The edge age starts at 0 when the speed leaves 0
and stands at 0 while it is 0 (R41). -/
def driveZone (z v : Nat) (d : Dir) (s : State) : State :=
  let q := zoneAt s z
  setZone z { q with
    speed := v
    dir := d
    duty := dutyOf s.pms z v
    age := if v = 0 ∨ q.speed = 0 then 0 else q.age } s

/-- Speed and duty 0 on every zone; the direction lines keep their levels (R37, R39, R99). -/
def haltZones (s : State) : State :=
  { s with zdu := { s.zdu with zones := s.zdu.zones.map fun q => { q with speed := 0, duty := 0, age := 0 } } }

/-- One zone of the run-out (R39): forward at floor(Vnom / 2), with its speed change handed to the FLT. -/
def runZone (s : State) (z : Nat) : State :=
  match s.pms.zone? z with
  | some e =>
    let q := zoneAt s z
    let v := e.vnom / 2
    speedChange z v (setZone z { q with speed := v, dir := .forward, duty := dutyOf s.pms z v, age := 0 } s)
  | none => s

/-- The run-out drive: the named zones run, every other zone is at 0 (R39). -/
def runOutZones (zs : List Nat) (s : State) : State := zs.foldl runZone (haltZones s)

/-- The standstill indication (R38). The 20 ms run from the last counted edge alone, also after a zone has been driven (log 72). -/
def standing (s : State) : Bool := s.zdu.zones.all (fun q => q.speed == 0) && Config.quietTime ≤ s.zdu.quiet

end Sys2Proof.Machine
end

