-- ==== Sys2Proof/Machine/Snapshot.lean ====
section
/-! DEFINITION. The snapshot area's row writes and the starting of their operations (R167 to R171). -/

namespace Sys2Proof.Machine

/-- The SPM is writing, or is to write, a snapshot. -/
def writingSnapshot (p : Spm) : Bool :=
  p.ops.any fun o => match o.kind with | .snapshot _ _ _ _ => true | _ => false

/-- The moment the head operation's next row write begins: a marker write of EMPTY sets the marker state (R167). -/
def beginWrite (p : Spm) : Spm :=
  match p.ops with
  | ⟨_, (0, bs) :: _⟩ :: _ => if bs = emptyRow then { p with marker := false } else p
  | _ => p

/-- Adds an operation; it begins at once when none is in progress (R169, R171). -/
def addOp (o : RowOp) (p : Spm) : Spm :=
  if p.ops.isEmpty then beginWrite { p with ops := [o], elapsed := 0 } else { p with ops := p.ops ++ [o] }

/-- The header of a snapshot taken now (R168). -/
def headerNow (t : Trigger) (s : State) : Header where
  trigger := t.code
  path := s.rcv.path.code
  records := s.flt.list.length
  sets := s.xlm.sets.length
  notSaved := s.rpq.queue.length
  incomplete := s.rpq.incomplete

/-- Numbers rows from `i` on. -/
def rowsFrom (i : Nat) : List (List Byte) → List (Nat × List Byte)
  | [] => []
  | b :: bs => (i, b) :: rowsFrom (i + 1) bs

/-- The row writes of a snapshot whose copy is taken now (R169). -/
def snapshotWrites (t : Trigger) (s : State) : List (Nat × List Byte) :=
  (0, emptyRow) :: (1, headerRow (headerNow t s)) ::
  rowsFrom 2 (s.flt.list.map (sheetRow s.pms)) ++ rowsFrom 26 (s.xlm.sets.map setRow) ++ [(0, completeRow)]

def snapshotOp (t : Trigger) (s : State) : RowOp where
  kind := .snapshot t s.flt.list.length s.xlm.sets.length s.rpq.queue.length
  writes := snapshotWrites t s

/-- A trigger starts a snapshot (R169): the flight list or the set table is not empty and none is being written. -/
def startsSnapshot (s : State) : Bool :=
  !(s.flt.list.isEmpty && s.xlm.sets.isEmpty) && !writingSnapshot s.spm

def takeSnapshot (t : Trigger) (s : State) : State :=
  if startsSnapshot s then setSpm (addOp (snapshotOp t s) s.spm) s else s

/-- The SPM is told that the path state enters ARMED (R171). -/
def armedEntered (s : State) : State :=
  if s.xlm.sets.isEmpty ∧ s.spm.marker ∧ writingSnapshot s.spm = false then
    setSpm (addOp ⟨.invalidate, [(0, emptyRow)]⟩ s.spm) s
  else s

/-- Entry to ARMED (R98, R100, R143). -/
def enterArmed (s : State) : State := armedEntered (setPath .armed s)

end Sys2Proof.Machine
end

