-- ==== Sys2Proof/Machine/Jam.lean ====
section
/-! DEFINITION. Jam causes, their areas, and what RCV does with a halting event (R92 to R95, R101, R102, R117). -/

namespace Sys2Proof.Machine

def unionAreas (a b : List Nat) : List Nat := areaSet fun x => a.contains x || b.contains x

/-! ## Jam areas (R94, R95) -/

/-- The area of a cause's node. -/
def nodeAreas (m : MapStore) (n : Nat) : List Nat := areaSet fun a => nodeArea m n == some a

/-- A cause that names a sheet: the areas its body touches and the node's (R94). -/
def sheetAreas (s : State) (sheet n : Nat) : List Nat :=
  unionAreas (((findRec s sheet).map (bodyAreas s.pms)).getD []) (nodeAreas s.pms n)

/-- STALL: the areas of the zone's segments that some body touches (R95). -/
def stallAreas (s : State) (z : Nat) : List Nat :=
  areaSet fun a => (definedEntries s.pms.segs).any fun (i, e) =>
    e.zone == z && e.area == a && s.flt.list.any fun r => touchesSeg s.pms r i

/-- Areas of the REMOTE segments into a station's nodes (R95). -/
def remoteAreas (m : MapStore) (k : Nat) : List Nat :=
  areaSet fun a => (definedEntries m.segs).any fun (_, e) =>
    e.kind == .remote && e.area == a && stationOfNode m e.dst == some k

/-- STATION: the areas whose cover is the reported one, or else those of the REMOTE segments (R95). -/
def stationAreas (m : MapStore) (k c : Nat) : List Nat :=
  let as := areasOfCover m (.station k c)
  if as.isEmpty then remoteAreas m k else as

/-- LINK_LOST: the areas whose cover source is the station, and those of the REMOTE segments into it (R95). -/
def linkAreas (m : MapStore) (k : Nat) : List Nat :=
  unionAreas (areaSet fun a => (m.area? a).any fun e => match e.source with | .station k' _ => k' == k | _ => false)
    (remoteAreas m k)

/-! ## Judging (R80, R87) -/

/-- Windows of the record are judged and their failures raised (R80). In HALTING, only the rest of the FLT event in which a second
failure was taken still judges them, those that it judged as it began: each of the event's failures is handed (R87, log 74). -/
def judged (s : State) (r : Record) : Bool :=
  match s.rcv.path with
  | .running => true
  | .runout => r.disp == some .deliver || r.disp == some .purge
  | .halting => s.rcv.moment.underway && s.rcv.moment.sheets.contains r.sheet
  | .config | .armed | .clearing | .resumable => false

/-- HALTING, in the millisecond in which a second failure halted the part: the record's windows were judged as it was taken, and a
window time of this millisecond is still handed (R87, log 74). -/
def inMoment (s : State) (r : Record) : Bool := s.rcv.path == .halting && s.rcv.moment.sheets.contains r.sheet

/-- The moment that a second failure opens. What falls together with a GATE jam taken first falls in HALTING, and is not raised
(R45). -/
def openMoment (c : Cause) (s : State) : Moment :=
  if c = .gate then .none else ⟨(s.flt.list.filter (judged s)).map (·.sheet), true⟩

/-! ## Halting (R102, R117) -/

/-- A first cause in ARMED or RUNNING (R102), as one step. -/
def firstCause (c : JamCause) (areas : List Nat) (s : State) : State :=
  let j : JamRecord := ⟨some c, none, areas⟩
  post (.jam false j) (haltZones (setPath .halting (setJam j s)))

/-- The disposition held for a record at a second failure (R117). -/
def heldDisp : Disp → Disp
  | .retain => .retain
  | .deliver | .purge | .remove => .remove

/-- A second failure in RUNOUT (R117), as one step. -/
def secondFailure (c : JamCause) (areas : List Nat) (s : State) : State :=
  let j : JamRecord := { s.rcv.jam with second := some c, areas := unionAreas s.rcv.jam.areas areas }
  let held := s.flt.list.filterMap fun r => r.disp.map fun d => (r.sheet, heldDisp d)
  let s := setMoment (openMoment c.cause s) s
  let s := setList (s.flt.list.map fun r => { r with disp := none }) (setHeld held (setJam j s))
  post (.jam false j) (haltZones (setPath .halting s))

/-- Areas join the jam area set (R93). -/
def joinAreas (areas : List Nat) (s : State) : State :=
  setJam { s.rcv.jam with areas := unionAreas s.rcv.jam.areas areas } s

/-- RCV takes a jam event or a supply WARN (R101, R93). -/
def raiseJam (c : JamCause) (areas : List Nat) (s : State) : State :=
  match s.rcv.path with
  | .armed | .running => firstCause c areas s
  | .runout => secondFailure c areas s
  | .halting => if s.rcv.jam.second.isSome then joinAreas areas s else s
  | .config | .clearing | .resumable => s

/-- The fields of a cause taken now (R92). -/
def causeNow (s : State) (c : Cause) (sheet node zone : Option Nat) (measured bound : Option Int) : JamCause :=
  ⟨c, sheet, node, zone, measured, bound, s.sys.now⟩

/-- RCV takes a cover opening (R101) for a cover of a defined area; in CLEARING and RESUMABLE the CLM handles it (R124). -/
def raiseCover (areas : List Nat) (s : State) : State :=
  match s.rcv.path with
  | .halting => joinAreas areas s
  | _ => raiseJam (causeNow s .cover none none none none none) areas s

/-- A jam that names a sheet, its node and zone (R92, R94). -/
def raiseSheet (c : Cause) (sheet node zone : Nat) (measured bound : Option Int) (s : State) : State :=
  raiseJam (causeNow s c (some sheet) (some node) (some zone) measured bound) (sheetAreas s sheet node) s

/-- The FLT moves records (R59). -/
def moving (s : State) : Bool :=
  match s.rcv.path with
  | .running | .halting | .runout => true
  | _ => false

end Sys2Proof.Machine
end

