-- ==== Sys2Proof/Machine/Gates.lean ====
section
/-! DEFINITION. Gates: commands, the positioning rule and the GATE jam (R42 to R45). -/

namespace Sys2Proof.Machine

/-- The position a record wants of gate `e`: its lead's step ends at the gate's node and its next step is one of the
gate's position segments (R44). A record REVERSING approaches no gate (R66), and one that has returned from a pocket no longer
approaches the gate at the pocket's from node, which its step leaves (log 73). -/
def wants (m : MapStore) (e : GateEntry) (r : Record) : Option Bool :=
  if r.progress = .reversing then none
  else if (leadSeg m r).any fun g => g.dst == e.node then
    (stepNo (pathOf m r) (r.lead.step + 1)).bind (wantedPos e)
  else none

/-- Remaining distance of an approaching record, not less than 0 (R44). -/
def remaining (m : MapStore) (r : Record) : Int := max 0 (remainingSigned m r)

/-- The record the gate serves: the nearest that approaches it (R44). -/
def served (s : State) (e : GateEntry) : Option Record :=
  nearest (remaining s.pms) (s.flt.list.filter fun r => (wants s.pms e r).isSome)

/-- Some record's body lies over the gate's node. -/
def bodyOver (s : State) (e : GateEntry) : Bool := s.flt.list.any fun r => liesOver s.pms r e.node

def positioning (s : State) : Bool :=
  match s.rcv.path with
  | .running | .runout => true
  | _ => false

/-- The GATE jam (R45): the gate becomes FAULTED. -/
def gateJam (g : Nat) (e : GateEntry) (measured bound : Option Int) (s : State) : State :=
  let s := setGate g { gateAt s g with faulted := true } s
  raiseJam (causeNow s .gate none (some e.node) (nodeZone s.pms e.node) measured bound) (nodeAreas s.pms e.node) s

/-- The guard case at this moment (R45): the served record is within the guard distance and the gate is not CONFIRMED in the
position it wants. -/
def guardJudge (g : Nat) (s : State) : State :=
  match s.pms.gate? g with
  | some e =>
    match served s e with
    | some r =>
      let q := gateAt s g
      if positioning s ∧ remaining s.pms r ≤ (e.guard * 100 : Nat) ∧
          ¬(q.status = .confirmed ∧ q.cmd = wants s.pms e r) then
        gateJam g e (some (remaining s.pms r)) (some (e.guard * 100 : Nat)) s
      else s
    | none => s
  | none => s

/-- A gate's state after a new command (R43). The sheet it serves stands until the positioning rule serves another (log 45). -/
def commanded (reading pos : Bool) (q : GateState) : GateState :=
  if reading = pos then { q with cmd := some pos, status := .confirmed, faulted := false }
  else { q with cmd := some pos, status := .moving, timer := 0, expired := false }

/-- Commands a gate to a position (R43). -/
def commandGate (g : Nat) (e : GateEntry) (pos : Bool) (s : State) : State :=
  setGate g (commanded (readingOf s e) pos (gateAt s g)) s

/-- The gate is set to the served record's wanted position and serves it (R44). -/
def position (g : Nat) (e : GateEntry) (sheet : Nat) (p : Bool) (s : State) : State :=
  let s := if (gateAt s g).cmd = some p then s else commandGate g e p s
  setGate g { gateAt s g with serving := some sheet } s

/-- The positioning rule at one gate (R44); `arrived` is the sheet whose lead has just arrived on its step. The guard case is
judged after it when that sheet is the served one and when the gate was commanded, which may have started it MOVING (R45).
While a body lies over the node the gate keeps its position and the sheet it serves (log 46). -/
def rederive (arrived : Option Nat) (g : Nat) (s : State) : State :=
  match s.pms.gate? g with
  | some e =>
    if positioning s then
      match served s e with
      | some r =>
        let here := arrived == some r.sheet
        if bodyOver s e then (if here then guardJudge g s else s)
        else
          match wants s.pms e r with
          | some p =>
            let t := position g e r.sheet p s
            if here || (gateAt s g).cmd != some p then guardJudge g t else t
          | none => s
      | none => s
    else s
  | none => s

/-- The guard case of the gate at a node (R45). -/
def guardAt (n : Nat) (s : State) : State :=
  ((definedEntries s.pms.gates).filter fun p => p.2.node == n).foldl (fun s p => guardJudge p.1 s) s

def gateIndices (s : State) : List Nat := (definedEntries s.pms.gates).map (·.1)

/-- Derives the gate at a node afresh (R44). -/
def rederiveAt (arrived : Option Nat) (n : Nat) (s : State) : State :=
  ((definedEntries s.pms.gates).filter fun p => p.2.node == n).foldl (fun s p => rederive arrived p.1 s) s

/-- Derives every gate afresh: the run-out begins, or RESUME (R44, R113, R143). -/
def rederiveAll (s : State) : State := (gateIndices s).foldl (fun s g => rederive none g s) s

/-- A leaving record's gates: those it approached and those its body lay over (R71). -/
def rederiveFor (r : Record) (s : State) : State :=
  ((definedEntries s.pms.gates).filter fun p =>
    ((leadSeg s.pms r).any fun g => g.dst == p.2.node) || liesOver s.pms r p.2.node).foldl (fun s p => rederive none p.1 s) s

/-- Guard cases judged at a counted edge of zone `z` (R45). -/
def guardEdges (z : Nat) (s : State) : State :=
  (gateIndices s).foldl (fun s g =>
    match (s.pms.gate? g).bind (served s) with
    | some r => if (leadSeg s.pms r).any fun e => e.zone == z then guardJudge g s else s
    | none => s) s

end Sys2Proof.Machine
end

