-- ==== Sys2Proof/Machine/Clearance.lean ====
section
/-! DEFINITION. The clearance list, its notices, and the entries to CLEARING and RESUMABLE (R120, R122 to R124, R128, R131). -/

namespace Sys2Proof.Machine

/-- List order: ascending rank, then ascending area index (R122). -/
def listBefore (m : MapStore) (a b : Nat) : Bool :=
  rankOf m a < rankOf m b || (rankOf m a == rankOf m b && a < b)

/-- Puts an area into its place of an ordered list. -/
def insertArea (m : MapStore) (a : Nat) : List Nat → List Nat
  | [] => [a]
  | b :: bs => if listBefore m a b then a :: b :: bs else b :: insertArea m a bs

/-- Areas in list order. -/
def inListOrder (m : MapStore) (as : List Nat) : List Nat := as.foldr (insertArea m) []

/-- The AREA notice of a status as it now stands (R123). -/
def areaNotice (a : Nat) (o : AreaOccasion) (node : Option Nat) (s : State) : State :=
  post (.area a (areaAt s a).status (coverOf s a) s.clm.list.length o node) s

/-- The areas whose check is due as an event of its own; each once (R128), in the order in which they became due (log 51). -/
def makeDue (a : Nat) (s : State) : State :=
  if s.clm.due.contains a then s else setDue (s.clm.due ++ [a]) s

/-- Lists an area that is not listed (R122), with its LISTED notice; an area without a cover, or with a cover of a station
that is not ONLINE, is then due for an immediate check (R128). -/
def listArea (s : State) (a : Nat) : State :=
  if s.clm.list.contains a then s
  else
    let s := setClearance (insertArea s.pms a s.clm.list) (setArea a ⟨.needed, 0⟩ s)
    let s := areaNotice a .listed none s
    if noCover s a || offlineCover s a then makeDue a s else s

def listAreas (as : List Nat) (s : State) : State := (inListOrder s.pms as).foldl listArea s

/-- The areas that the CLM lists when it forms the clearance list (R122). -/
def areasToList (s : State) : List Nat :=
  areaSet fun a =>
    s.rcv.jam.areas.contains a ||
    (s.flt.list.any fun r => removing r && (bodyAreas s.pms r).contains a) ||
    (sensorNodes s.pms).any fun (n, e) => e.area == a && unexplained s n

/-- Positions held at the entry to CLEARING or RESUMABLE: expectations close (R73), and the travel of each zone is noted
for the stamps' rebasing when records were moving until now (R59, R142). -/
def holdPositions (s : State) : State :=
  let s := setList (s.flt.list.map fun r => { r with leadExp := none, trailExp := none }) s
  match s.rcv.path with
  | .clearing | .resumable => s
  | _ => { s with rcv := { s.rcv with holdTravel := s.zdu.zones.map (·.travel) } }

/-- Entry to CLEARING with the clearance list formed (R122). -/
def enterClearing (s : State) : State :=
  let as := areasToList s
  listAreas as (setPath .clearing (holdPositions s))

/-- Entry to RESUMABLE, with its READY notice (R120, R131). -/
def enterResumable (s : State) : State :=
  let s := setDue [] (setPath .resumable (holdPositions s))
  post (.ready s.flt.list.length s.rpq.queue.length s.rpq.incomplete) s

/-- R120: CLEARING when there is an area to list or a cover open. -/
def recoveryClears (s : State) : Bool := !(areasToList s).isEmpty || !allCoversClosed s

def decideRecovery (s : State) : State := if recoveryClears s then enterClearing s else enterResumable s

/-- R131: RESUMABLE when, in CLEARING, the list is empty and every cover named by a defined area is CLOSED. -/
def decideResumable (s : State) : State :=
  if s.rcv.path = .clearing ∧ s.clm.list.isEmpty ∧ allCoversClosed s then enterResumable s else s

/-! ## A cover opened during recovery (R124) -/

/-- Steps 1 and 2 of R124 on one record, given the areas of the opened cover. In a stream that holds ordered and unordered records, a
record of either kind that step 1 hits takes with it the ordered ones behind it and no unordered one (DESIGN CHOICE, log 69). -/
def takesRemove (s : State) (areas : List Nat) (r : Record) : Bool :=
  let hit (q : Record) : Bool := retained q && (bodyAreas s.pms q).any areas.contains
  retained r && (hit r ||
    (!r.unordered && s.flt.list.any fun q =>
      hit q && streamOf s.pms q == streamOf s.pms r && q.ordinal < r.ordinal))

/-- The areas the bodies of some records touch. -/
def touchedAreas (m : MapStore) (rs : List Record) : List Nat := areaSet fun a => rs.any fun r => (bodyAreas m r).contains a

/-- Gives REMOVE to the chosen records and lists the areas their bodies touch, by rank and then index (R124, R144, log 57). -/
def giveRemove (p : Record → Bool) (s : State) : State :=
  let hit := s.flt.list.filter p
  let s := setList (s.flt.list.map fun r => if p r then { r with disp := some .remove } else r) s
  listAreas (touchedAreas s.pms hit) s

/-- Step 4 of R124 on one area of the opened cover. -/
def openArea (s : State) (a : Nat) : State :=
  if (areaAt s a).status = .checking then areaNotice a .reopened none (setArea a ⟨.needed, 0⟩ s)
  else listArea s a

/-- A cover opening in CLEARING or RESUMABLE (R124), as one step: steps 1 to 3 for all areas of the cover together, then step 4
area by area in list order (log 49). -/
def coverOpening (areas : List Nat) (s : State) : State :=
  let s' := if s.rcv.path = .resumable then setPath .clearing s else s
  (inListOrder s.pms areas).foldl openArea (giveRemove (takesRemove s areas) s')

/-- A cover closing in CLEARING: each listed NEEDED area of that cover becomes CHECKING (R125), in list order (log 50), and R131
is judged. -/
def coverClosing (areas : List Nat) (s : State) : State :=
  if s.rcv.path = .clearing then
    decideResumable ((inListOrder s.pms areas).foldl (fun s a =>
      if s.clm.list.contains a ∧ (areaAt s a).status = .needed then
        areaNotice a .check none (setArea a ⟨.checking, 0⟩ s)
      else s) s)
  else s

/-- A calibration ends with REFUSED(STATE) when a cover named by a defined area opens (R25). -/
def abortCalibration (s : State) : State :=
  match s.sfe.calib with
  | some c => refuse kCALIBRATE c.tag .state (setCalib none s)
  | none => s

/-- A cover event, local or of a station, once the new state is held (R121, R101, R124, R125). -/
def coverChanged (c : CoverSource) (isOpen : Bool) (s : State) : State :=
  let areas := areasOfCover s.pms c
  if areas.isEmpty then s
  else if isOpen then
    let s := abortCalibration s
    match s.rcv.path with
    | .clearing | .resumable => coverOpening areas s
    | _ => raiseCover areas s
  else coverClosing areas s

end Sys2Proof.Machine
end

