-- ==== Sys2Proof/Machine/Stations.lean ====
section
/-! DEFINITION. Hand-offs, set cancels, and the loss of a station (R69, R147, R155, R158, R159, R161). -/

namespace Sys2Proof.Machine

/-- A STATION notice with the link state as it now stands (R162). -/
def stationNotice (k : Nat) (o : StationOccasion) (s : State) : State := post (.station k (stationAt s k).link o) s

/-- LINK_LOST for a station in use, in RUNNING or RUNOUT (R159, R161). -/
def linkLost (k : Nat) (s : State) : State :=
  if positioning s ∧ stationInUse s k then
    raiseJam (causeNow s .linkLost none none none (some (k : Nat)) none) (linkAreas s.pms k) s
  else s

/-- Listed NEEDED areas with a cover of the station become due for an immediate check (R128). -/
def dueForStation (k : Nat) (s : State) : State :=
  (s.clm.list.filter fun a =>
    (areaAt s a).status == .needed && (match s.pms.area? a with
      | some ⟨.station k' _, _⟩ => k' == k
      | _ => false)).foldl (fun s a => makeDue a s) s

/-- A station becomes LOST (R159). -/
def loseStation (byQueue : Bool) (k : Nat) (s : State) : State :=
  let s := setStation k { stationAt s k with link := .lost, retry := 0, miss := 0, handOffs := [] } s
  linkLost k (dueForStation k (stationNotice k (.lost byQueue) s))

/-- The station and bin of a record's hand-off: its destination's station, or that of the REMOTE node when the route ends
at a local destination (R69, R147; log 18). -/
def handOffTarget (m : MapStore) (r : Record) (n : Nat) : Option (Nat × Option Nat) :=
  match stationOfNode m (routeDest m r.route) with
  | some k => some (k, (m.node? (routeDest m r.route)).bind (·.localNo))
  | none => (stationOfNode m n).map fun k => (k, none)

/-- The first step of the path that needs a station is step `i` (R69). -/
def firstStationStep (m : MapStore) (r : Record) (i : Nat) : Bool :=
  !(stationsNeeded m ((pathOf m r).take i) i).isEmpty && (stationsNeeded m ((pathOf m r).take (i - 1)) 1).isEmpty

/-- Offers a hand-off to a station's queue (R147, R155). -/
def offerHandOff (r : Record) (k : Nat) (bin : Option Nat) (s : State) : State :=
  let q := stationAt s k
  if q.handOffs.length < Config.maxHandOffs then
    let s := setStation k { q with handOffs := q.handOffs ++ [⟨r.sheet, r.setPart, bin⟩] } s
    countHandOff r (putRec { r with handOff := true } s)
  else if q.link = .online then loseStation true k s
  else s

/-- The hand-off of a record whose lead has just taken a step (R69). -/
def handOffStep (sheet : Nat) (s : State) : State :=
  match findRec s sheet with
  | some r =>
    if r.handOff = false ∧ r.purgeJoin = none ∧ firstStationStep s.pms r r.lead.step then
      match (leadSeg s.pms r).bind fun g => handOffTarget s.pms r g.dst with
      | some (k, bin) => offerHandOff r k bin s
      | none => s
    else s
  | none => s

/-- A set cancel joins a station's cancel queue, or is reported when the queue is full (R155). -/
def queueCancel (k : Nat) (c : Cancel) (s : State) : State :=
  let q := stationAt s k
  if q.cancels.length < Config.maxCancels then setStation k { q with cancels := q.cancels ++ [c] } s
  else stationNotice k (.errorSet c.number) s

/-- The set cancel of a set, on the cancel queue of its destination's station (R150, R151), as the map now has it (log 76). -/
def cancelSet (e : SetEntry) (s : State) : State :=
  match s.pms.node? e.dest with
  | some n =>
    match n.station with
    | some k => queueCancel k ⟨e.number, n.localNo⟩ s
    | none => s
  | none => s

end Sys2Proof.Machine
end

