-- ==== Sys2Proof/Machine/Leave.lean ====
section
/-! DEFINITION. How records leave the flight list (R70, R71, R106, R115, R116, R129, R130). -/

namespace Sys2Proof.Machine

/-- Final outcomes (R49); a REMOVED record names the area whose check released it. -/
inductive Final where
  | delivered
  | purged
  | removed (area : Nat)
  | voided
  deriving DecidableEq, Repr

/-- The notice of an outcome (R71, R106, R115, R130). -/
def finalNotice (m : MapStore) (r : Record) : Final → Notice
  | .delivered => .delivered r.sheet r.job r.ordinal (routeDest m r.route)
  | .purged => .purged r.sheet r.job r.ordinal ((endOf m (pathOf m r)).getD 0)
  | .removed a => .removed r.sheet r.job r.ordinal (routeDest m r.route) a
  | .voided => .voided r.sheet r.job r.ordinal (routeDest m r.route) r.repick

/-- The reprint entry of an outcome, offered between taking the record out and its notice (R106, R115, R130). -/
def finalEntry (m : MapStore) (r : Record) : Final → Option ReprintEntry
  | .delivered => none
  | .purged => some (sheetEntry m .purged r)
  | .removed _ => some (sheetEntry m .removed r)
  | .voided => some (sheetEntry m .voided r)

def offerFinal (m : MapStore) (r : Record) (f : Final) (s : State) : State :=
  match finalEntry m r f with
  | some e => offerEntry e s
  | none => s

/-- The member's set is told (R148). -/
def memberLeaves (r : Record) (f : Final) (s : State) : State :=
  match f with
  | .delivered => memberDelivered r s
  | .purged | .removed _ | .voided => memberLost r s

/-- A held disposition is dropped when its record leaves (R118). -/
def dropHeld (sheet : Nat) (s : State) : State := setHeld (s.rcv.held.filter fun p => p.1 ≠ sheet) s

/-- Steps 1 to 4 of R71: out of the list, entry offered, notice posted, set and gates told. -/
def takeOut (r : Record) (f : Final) (s : State) : State :=
  let s1 := offerFinal s.pms r f (dropRec r.sheet s)
  let s2 := post (finalNotice s.pms r f) s1
  rederiveFor r (dropHeld r.sheet (memberLeaves r f s2))

/-- Some record still has disposition DELIVER or PURGE. -/
def runOutGoing (s : State) : Bool := s.flt.list.any fun r => r.disp == some .deliver || r.disp == some .purge

/-- R116: when the last DELIVER or PURGE record has left, every zone falls to 0 and R120 decides. -/
def runOutEnd (s : State) : State :=
  if s.rcv.path = .runout ∧ runOutGoing s = false then decideRecovery (haltZones s) else s

/-- R71 step 5 and R116: what a departure does to the path state. -/
def afterLeaving (f : Final) (s : State) : State :=
  match s.rcv.path with
  | .running => if f = .delivered ∧ s.flt.list.isEmpty then enterArmed s else s
  | .runout => runOutEnd s
  | _ => s

/-- A record leaves with an outcome. -/
def leave (f : Final) (sheet : Nat) (s : State) : State :=
  match findRec s sheet with
  | some r => afterLeaving f (takeOut r f s)
  | none => s

/-! ## Area checks (R126 to R129) -/

/-- The area check and the release skip this node (R126). -/
def skipped (s : State) (n : Nat) : Bool := underRetained s n && !underRemoving s n

/-- The covered SENSOR nodes an area check finds (R126), in node order. -/
def checkFinds (s : State) (a : Nat) : List Nat :=
  (sensorNodes s.pms).filterMap fun (n, e) => if e.area == a && covered s n && !skipped s n then some n else none

/-- The covered SENSOR nodes under a record's body (R129). -/
def coveredUnder (s : State) (r : Record) : List Nat :=
  (sensorNodes s.pms).filterMap fun (n, _) =>
    if liesOver s.pms r n && covered s n && !skipped s n then some n else none

/-- R128's last case for one area: listed NEEDED, cover CLOSED, no jam area, no REMOVE body left on it. An area without a cover counts
as CLOSED (log 70). -/
def releasedArea (s : State) (a : Nat) : Bool :=
  s.clm.list.contains a && (areaAt s a).status == .needed && coverClosed s a && !s.rcv.jam.areas.contains a &&
  !(s.flt.list.any fun r => removing r && (bodyAreas s.pms r).contains a)

/-- Areas touched by departed REMOVE records are judged for an immediate check (R128, R129, R130), in ascending index (log 51). -/
def judgeReleased (areas : List Nat) (s : State) : State :=
  (areas.filter (releasedArea s)).foldl (fun s a => makeDue a s) s

/-- One REMOVE record of a DONE area (R129): out of the list, or its covered nodes' areas are listed again, in list order
(log 52). -/
def releaseRecord (a : Nat) (s : State) (sheet : Nat) : State :=
  match findRec s sheet with
  | some r =>
    match coveredUnder s r with
    | [] => takeOut r (.removed a) s
    | ns => listAreas (areaSet fun b => ns.any fun n => nodeArea s.pms n == some b) s
  | none => s

/-- The records a DONE area releases (R129), then the immediate checks and R131. -/
def releaseArea (a : Nat) (s : State) : State :=
  let rs := s.flt.list.filter fun r => removing r && (bodyAreas s.pms r).contains a
  let s' := (rs.map (·.sheet)).foldl (releaseRecord a) s
  let gone := rs.filter fun r => (findRec s' r.sheet).isNone
  decideResumable (judgeReleased (touchedAreas s.pms gone) s')

/-- The end of a check of a listed area (R126, R128): DONE, or NEEDED with the lowest-numbered covered node. -/
def concludeCheck (a : Nat) (s : State) : State :=
  match checkFinds s a with
  | [] =>
    let s := setClearance (s.clm.list.filter fun b => b ≠ a) (setArea a ⟨.done, 0⟩ s)
    releaseArea a (areaNotice a .clear none s)
  | n :: _ => areaNotice a .blocked (some n) (setArea a ⟨.needed, 0⟩ s)

/-! ## FINAL reports (R70) -/

/-- A FINAL that names a REMOVE record in CLEARING: its areas are judged under R128, and R131 is judged (R130). -/
def afterFinal (r : Record) (s : State) : State :=
  if s.rcv.path = .clearing then
    decideResumable (if removing r then judgeReleased (bodyAreas s.pms r) s else s)
  else s

/-- The FLT takes a station's FINAL (R70). -/
def takeFinal (k : Nat) (s : State) (sheet : Nat) : State :=
  match findRec s sheet with
  | some r =>
    if stationOfNode s.pms (routeDest s.pms r.route) = some k then afterFinal r (leave .delivered sheet s)
    else stationNotice k (.errorSheet sheet) s
  | none => stationNotice k (.errorSheet sheet) s

end Sys2Proof.Machine
end

