-- ==== Sys2Proof/Machine/Flight.lean ====
section
/-! DEFINITION. How records move: windows opened, leads and trails carried on, the switchback, and the judging of edges
(R59 to R69, R73 to R91). -/

namespace Sys2Proof.Machine

/-- Changes the record of a sheet, when the list holds it. -/
def updRec (sheet : Nat) (f : Record → Record) (s : State) : State :=
  match findRec s sheet with
  | some r => putRec (f r) s
  | none => s

/-- Does something that depends on a sheet's record, when the list holds it. -/
def withRec (sheet : Nat) (f : Record → State → State) (s : State) : State :=
  match findRec s sheet with
  | some r => f r s
  | none => s

/-! ## Windows open (R73 to R75, R81, R88) -/

/-- A lead window of some kind on segment `g`, at the lead's place. -/
def leadWindow (s : State) (r : Record) (g : SegEntry) (k : LeadKind) : LeadExp :=
  let v := speedOf s g.zone
  let e : LeadExp :=
    { kind := k, node := g.dst, zone := g.zone, ref := r.lead.ref, lo := boundLo g.len g.early
      hi := boundHi g.len g.late r.slip, margin := g.margin, budget := none, elapsed := 0, times := none }
  match k with
  | .pick => { e with budget := formBudget e.hi 0 g.margin v }
  | .travel => { e with budget := formBudget e.hi r.lead.offset g.margin v }
  | .remote => { e with times := formTimes e 0 v }

/-- The lead expectation of the step the lead stands on: at a working SENSOR node or a REMOTE node, and none on a REVERSE
step or at any other node (R62, R73). -/
def openLead (s : State) (r : Record) : Option LeadExp :=
  match leadSeg s.pms r with
  | some g =>
    if g.kind = .reverse then none
    else if working s g.dst then some (leadWindow s r g (if r.progress = .announced then .pick else .travel))
    else if nodeKind s.pms g.dst = some .remote then some (leadWindow s r g .remote)
    else none
  | none => none

/-- The trail's next node is a working SENSOR node held in the arrivals under the body: its entry (R64). -/
def heldEntry (s : State) (r : Record) : Option Arrival :=
  if r.trailStep < r.lead.step then
    (trailNext s.pms r).bind fun n => if working s n then r.arrivals.find? fun a => a.node == n else none
  else none

/-- The stay window of an arrivals entry (R81). -/
def stayWindow (s : State) (r : Record) (a : Arrival) : TrailExp :=
  let late := ((s.pms.seg? a.seg).map (·.late)).getD 0
  let margin := ((s.pms.seg? a.seg).map (·.margin)).getD 0
  let hi := boundHi (lengthOf r) late r.slip
  { node := a.node, zone := a.zone, ref := a.stamp, hi := hi, margin := margin
    budget := formBudget hi (travelDiff (travelOf s a.zone) a.stamp) margin (speedOf s a.zone) }

def openTrail (s : State) (r : Record) : Option TrailExp := (heldEntry s r).map (stayWindow s r)

/-- A stay window past its bound fails as STAY (R82), its zone the window's own (log 75). -/
def judgeStay (r : Record) (s : State) : State :=
  match r.trailExp with
  | some e =>
    if judged s r ∧ trailRun s e > e.hi then raiseSheet .stay r.sheet e.node e.zone (some (trailRun s e)) (some (e.hi : Nat)) s
    else s
  | none => s

/-- Opens the stay window at the trail's next node, which may fail at once (R64, R81, R82). -/
def openStay (sheet : Nat) (s : State) : State :=
  withRec sheet (judgeStay) (updRec sheet (fun r => { r with trailExp := openTrail s r }) s)

/-! ## Sides (R65) -/

/-- Step `i` of a path ends at its first or second TRANSFER crossing: that side takes the state. -/
def setSide (m : MapStore) (i : Nat) (v : Imaging) (r : Record) : Record :=
  let ends := ((stepSeg m r i).bind fun g => nodeKind m g.dst) == some .transfer
  if ends ∧ r.purgeJoin = none then
    match transferCount m ((pathOf m r).take i) with
    | 1 => { r with sideA := r.sideA.map fun _ => v }
    | 2 => { r with sideB := r.sideB.map fun _ => v }
    | _ => r
  else r

/-! ## The lead takes a step (R62, R63, R67) -/

/-- The record with its lead `excess` µm into the next step, `arr` appended to its arrivals, and its expectations closed on the
side of the lead. -/
def steppedOn (s : State) (excess : Nat) (arr : List Arrival) (r : Record) : Record :=
  let zone := ((stepSeg s.pms r (r.lead.step + 1)).map (·.zone)).getD 0
  { r with
    progress := .moving
    lead := ⟨r.lead.step + 1, travelOf s zone - BitVec.ofNat 32 excess, excess⟩
    leadExp := none
    arrivals := r.arrivals ++ arr }

/-- The lead takes the next step: its expectation opens, the trail's may, the gate is derived afresh and the hand-off is made
when this is the step that calls for one. -/
def takeStep (excess : Nat) (arr : List Arrival) (r : Record) (s : State) : State :=
  let q := steppedOn s excess arr r
  let s1 := putRec { q with leadExp := openLead s q } s
  let s2 := if r.trailStep = r.lead.step then openStay r.sheet s1 else s1
  let s3 := match leadSeg s.pms q with
    | some g => rederiveAt (some r.sheet) g.dst s2
    | none => s2
  handOffStep r.sheet s3

/-! ## Crossings by the mark rule (R63, R64, R66, R71) -/

/-- The excess with which the lead crosses the mark at the end of its step. -/
def markExcess (s : State) (r : Record) : Option Nat :=
  match leadSeg s.pms r with
  | some g =>
    if r.progress = .moving ∧ g.kind ≠ .reverse ∧ r.lead.step < (pathOf s.pms r).length ∧ markLike s g.dst ∧
        (g.len * 100 : Nat) ≤ r.lead.offset then
      some (r.lead.offset - (g.len * 100 : Nat)).toNat
    else none
  | none => none

/-- The lead crosses marks one after another. A path has fewer than 40 steps. -/
def crossMarks (sheet : Nat) : Nat → State → State
  | 0, s => s
  | n + 1, s =>
    match findRec s sheet with
    | some r =>
      match markExcess s r with
      | some x =>
        let q := setSide s.pms r.lead.step .imaging r
        crossMarks sheet n (takeStep x [] q (putRec q s))
      | none => s
    | none => s

/-- The record with its trail across its next node (R64, R66). -/
def trailOn (s : State) (r : Record) : Record :=
  let n := trailNext s.pms r
  let leftPocket := (stepSeg s.pms r r.trailStep).any fun g => g.kind == .reverse
  let q := if leftPocket then r else setSide s.pms r.trailStep .done r
  let q := { q with
    trailExp := none
    trailStep := r.trailStep + 1
    arrivals := match r.arrivals with
      | a :: as => if some a.node = n then as else a :: as
      | [] => [] }
  match stepSeg s.pms q q.trailStep with
  | some g =>
    if g.kind = .reverse ∧ q.trailStep = q.lead.step then
      { q with progress := .reversing, depth := some ⟨0, travelOf s g.zone, false⟩ }
    else q
  | none => q

/-- The trail crosses its next node. -/
def crossTrail (r : Record) (s : State) : State :=
  let s1 := putRec (trailOn s r) s
  let s2 := openStay r.sheet s1
  match trailNext s.pms r with
  | some n => rederiveAt none n s2
  | none => s2

/-- The trail's next node is one that it crosses by the mark rule, and the lead is a sheet length past it (R64). -/
def trailMark (s : State) (r : Record) : Bool :=
  r.progress == .moving && r.trailStep < r.lead.step && (heldEntry s r).isNone &&
  ((lengthOf r * 100 : Nat) : Int) ≤ leadPast s.pms r

/-- The trail crosses a local destination at the path's end (R64, R71, R115). A REMOVE record stays in the list
(R114) and, once a second failure has withdrawn its disposition, leaves at the next increment that finds it past (log 55). -/
def atDestination (s : State) (r : Record) : Bool :=
  match leadSeg s.pms r with
  | some g =>
    r.progress == .moving && !removing r && r.trailStep == r.lead.step && r.lead.step == (pathOf s.pms r).length &&
    nodeKind s.pms g.dst == some .dest && (stationOfNode s.pms g.dst).isNone &&
    (((g.len + lengthOf r) * 100 : Nat) : Int) ≤ r.lead.offset
  | none => false

def arrivedAs (r : Record) : Final := if r.purgeJoin.isSome then .purged else .delivered

/-- The trail crosses nodes one after another, and leaves at a destination. -/
def crossTrails (sheet : Nat) : Nat → State → State
  | 0, s => s
  | n + 1, s =>
    match findRec s sheet with
    | some r =>
      if trailMark s r then crossTrails sheet n (crossTrail r s)
      else if atDestination s r then leave (arrivedAs r) sheet s
      else s
    | none => s

/-- Every crossing that the record's place now calls for, the lead's first. -/
def settle (sheet : Nat) (s : State) : State :=
  if moving s then crossTrails sheet 40 (crossMarks sheet 40 s) else s

/-! ## The switchback (R66 to R68) -/

/-- Accepts a return (R67): `seen` when a working sensor saw it. -/
def acceptReturn (seen : Bool) (r : Record) (s : State) : State :=
  match stepSeg s.pms r (r.lead.step + 1), stepNo (pathOf s.pms r) (r.lead.step + 1) with
  | some g, some i =>
    let q := { r with depth := none, arrivals := [] }
    settle r.sheet (takeStep 0 (if seen then [⟨g.src, g.zone, travelOf s g.zone, i, true⟩] else []) q s)
  | _, _ => s

/-- REVERSAL names the sheet, the from node, the REVERSE step's zone, the depth and the bound it passed (R68). -/
def raiseReversal (r : Record) (g : SegEntry) (d bound : Int) (s : State) : State :=
  raiseSheet .reversal r.sheet g.src g.zone (some d) (some bound) s

/-- The return's edge at a working sensor, its depth judged against the segment's tolerances (R67, R68). -/
def judgeReturn (r : Record) (g : SegEntry) (d : Int) (s : State) : State :=
  if judged s r ∧ d > (g.early * 100 : Nat) then raiseReversal r g d (g.early * 100 : Nat) s
  else if judged s r ∧ d < -((g.late * 100 : Nat) : Int) then raiseReversal r g d (-((g.late * 100 : Nat) : Int)) s
  else acceptReturn true r s

/-- The record with its return refused: no later increment takes it (R68, log 29). -/
def returnRefused (r : Record) : Record := { r with depth := r.depth.map fun d => { d with refused := true } }

/-- The return at a from node without a working sensor, at the increment at which the depth first comes to 0 or below (R68): below
the late bound it is REVERSAL and the return stays untaken, else it is accepted with no arrivals entry. -/
def takeReturn (r : Record) (g : SegEntry) (d : Int) (s : State) : State :=
  if judged s r ∧ d < -((g.late * 100 : Nat) : Int) then
    raiseReversal r g d (-((g.late * 100 : Nat) : Int)) (putRec (returnRefused r) s)
  else acceptReturn false r s

/-- A REVERSING record at a travel increment of its pocket's zone (R68). -/
def judgeDepth (r : Record) (s : State) : State :=
  match r.depth, leadSeg s.pms r with
  | some d, some g =>
    if judged s r ∧ d.value > ((g.len + g.late) * 100 : Nat) then
      raiseReversal r g d.value ((g.len + g.late) * 100 : Nat) s
    else if markLike s g.src ∧ d.refused = false then (if d.value ≤ 0 then takeReturn r g d.value s else s)
    else if judged s r ∧ d.value < -((g.late * 100 : Nat) : Int) then
      raiseReversal r g d.value (-((g.late * 100 : Nat) : Int)) s
    else s
  | _, _ => s

/-! ## Travel increments (R60, R78, R82) -/

/-- The record with its offset and depth taken from its zone's travel (R50, R60, R66). -/
def carried (s : State) (z : Nat) (r : Record) : Record :=
  { r with
    lead := { r.lead with offset := travelDiff (travelOf s z) r.lead.ref }
    depth := r.depth.map fun d => { d with value := travelDiff (travelOf s z) d.ref } }

/-- The guard case of the gate at a mark that the record's lead is about to cross: its lead stands at the node, so the remaining
distance is 0 (R45). -/
def guardMark (r : Record) (s : State) : State :=
  match leadSeg s.pms r with
  | some g => if (markExcess s r).isSome then guardAt g.dst s else s
  | none => s

/-- One record at a travel increment of zone `z`. A GATE jam at a mark is judged before the lead crosses it (R45, R63).
Once an earlier record's departure in the increment has ended the run-out, the later ones keep the offset they had (log 66). -/
def moveRecord (z : Nat) (s : State) (sheet : Nat) : State :=
  match findRec s sheet with
  | some r =>
    if moving s ∧ r.progress ≠ .announced ∧ (leadSeg s.pms r).any (fun g => g.zone == z) then
      let q := carried s z r
      let s := putRec q s
      if r.progress = .reversing then judgeDepth q s else settle sheet (guardMark q s)
    else s
  | none => s

/-- LATE when a travel window's run, which is the lead's offset or, re-armed, the travel since RESUME, has passed its hi
(R78, R142). -/
def judgeLate (z : Nat) (r : Record) (s : State) : State :=
  match r.leadExp with
  | some e =>
    if e.kind = .travel ∧ e.zone = z ∧ judged s r ∧ leadRun s e > e.hi then
      raiseSheet .late r.sheet e.node e.zone (some (leadRun s e)) (some (e.hi : Nat)) s
    else s
  | none => s

/-- The windows of one record owned by zone `z`, compared with their upper bounds. -/
def judgeWindows (z : Nat) (s : State) (sheet : Nat) : State :=
  let s1 := withRec sheet (judgeLate z) s
  withRec sheet (fun r s => if r.trailExp.any (fun e => e.zone == z) then judgeStay r s else s) s1

/-- The FLT takes a travel increment of zone `z` (R59, R60, R78). -/
def takeIncrement (z : Nat) (s : State) : State :=
  if moving s then
    let s1 := (sheetsOf s).foldl (moveRecord z) s
    (sheetsOf s1).foldl (judgeWindows z) s1
  else s

/-! ## LEAD edges (R61, R62, R67, R77, R86) -/

/-- The REVERSE step's segment of a record REVERSING at node `n`. -/
def reversingAt (m : MapStore) (n : Nat) (r : Record) : Option SegEntry :=
  if r.progress = .reversing then (leadSeg m r).filter fun g => g.src == n else none

def depthOf (r : Record) : Int := (r.depth.map (·.value)).getD 0

/-- A record whose return at node `n` an edge may be. -/
def returnsAt (s : State) (n : Nat) : Option (Record × SegEntry) :=
  (s.flt.list.filterMap fun r => (reversingAt s.pms n r).map fun g => (r, g)).head?

/-- A record whose return at node `n` an edge is, its depth at or below its bound (R61): the earliest in the list (log 47). -/
def returnsWithin (s : State) (n : Nat) : Option (Record × SegEntry) :=
  ((s.flt.list.filterMap fun r => (reversingAt s.pms n r).map fun g => (r, g)).filter
    fun (r, g) => depthOf r ≤ (g.early * 100 : Nat)).head?

/-- The record whose open lead expectation at node `n` is nearest (R61, R84). -/
def expectedAt (s : State) (n : Nat) : Option Record :=
  nearest (remainingSigned s.pms) (s.flt.list.filter fun r => r.leadExp.any fun e => e.node == n)

/-- A lead stands on a REVERSE step that ends at node `n` (R61). -/
def pocketEnd (s : State) (n : Nat) : Bool :=
  s.flt.list.any fun r => (leadSeg s.pms r).any fun g => g.kind == .reverse && g.dst == n

/-- The arrival at a working SENSOR node is accepted (R62). -/
def acceptArrival (n z : Nat) (stamp : Travel) (r : Record) (s : State) : State :=
  let seg := (stepNo (pathOf s.pms r) r.lead.step).getD 0
  settle r.sheet (takeStep 0 [⟨n, z, stamp, seg, false⟩] r s)

/-- An arrival in a pick window is accepted; one in a travel window is judged by its arrival travel (R77, R85). -/
def judgeArrival (n z : Nat) (stamp : Travel) (r : Record) (e : LeadExp) (s : State) : State :=
  let a := travelDiff stamp e.ref
  if e.kind = .travel ∧ judged s r ∧ a < e.lo then
    raiseSheet .early r.sheet n e.zone (some a) (some (e.lo : Nat)) s
  else if e.kind = .travel ∧ judged s r ∧ a > e.hi then
    raiseSheet .late r.sheet n e.zone (some a) (some (e.hi : Nat)) s
  else acceptArrival n z stamp r s

/-- UNEXPECTED at a node (R86). -/
def raiseUnexpected (n : Nat) (s : State) : State :=
  raiseJam (causeNow s .unexpected none (some n) (nodeZone s.pms n) none none) (nodeAreas s.pms n) s

/-- The FLT takes a LEAD edge at sensor node `n` (R61, R86); the edge at the end of a pocket changes nothing. -/
def takeLead (n z : Nat) (stamp : Travel) (s : State) : State :=
  match s.rcv.path with
  | .running | .halting | .runout =>
    if pocketEnd s n then s
    else
      match returnsWithin s n with
      | some (r, g) => judgeReturn r g (depthOf r) s
      | none =>
        match expectedAt s n with
        | some r =>
          match r.leadExp with
          | some e => judgeArrival n z stamp r e s
          | none => s
        | none =>
          match returnsAt s n with
          | some (r, g) => judgeReturn r g (depthOf r) s
          | none => if s.rcv.path = .halting then s else raiseUnexpected n s
  | .armed => raiseUnexpected n s
  | .config | .clearing | .resumable => s

/-! ## TRAIL edges (R64, R82 to R84) -/

/-- The stay window of `r` at a measure node measures, unless it was opened for a switchback return (R83). -/
def measures (s : State) (n : Nat) (r : Record) : Bool :=
  ((s.pms.node? n).bind (·.measure)) == some true && !((heldEntry s r).any (·.isReturn))

/-- CROWD (R84): the nearest lead expected at the node is closer than the min gap; no remaining distance is below 0 (log 64). -/
def judgeCrowd (n : Nat) (s : State) : State :=
  match expectedAt s n, s.pms.params with
  | some r, some p =>
    let d := remaining s.pms r
    if judged s r ∧ d < ((p.minGap * 100 : Nat) : Int) then
      raiseSheet .crowd r.sheet n (((r.leadExp.map (·.zone))).getD 0) (some d) (some (p.minGap * 100 : Nat)) s
    else s
  | _, _ => s

/-- An accepted TRAIL edge: the trail crosses the node, and the spacing to the next sheet is checked (R64, R84). -/
def acceptTrail (n : Nat) (r : Record) (s : State) : State :=
  judgeCrowd n (settle r.sheet (crossTrail r (putRec r s)))

/-- A TRAIL edge judged by its leave travel `t` (R82, R83). The zone that a failure names is the window's own (log 75). A measure
below 0, which only a record that is not judged can have accepted, is stored as 0 (log 68). -/
def judgeTrail (n : Nat) (t : Int) (r : Record) (e : TrailExp) (s : State) : State :=
  let m := t / 100
  let raise c v b := raiseSheet c r.sheet n e.zone (some v) (some b) s
  if judged s r ∧ t > e.hi then raise .stay t (e.hi : Nat)
  else if measures s n r then
    if judged s r ∧ m > ((r.declared + r.doubleMargin : Nat) : Int) then raise .double m (r.declared + r.doubleMargin : Nat)
    else if judged s r ∧ (m < (r.declared : Int) - r.tolerance ∨ m > (r.declared + r.tolerance : Nat)) then
      raise .size m (r.declared : Nat)
    else acceptTrail n { r with measured := some m.toNat } s
  else if judged s r ∧ t < ((lengthOf r : Int) - r.tolerance) * 100 then
    raise .short t (((lengthOf r : Int) - r.tolerance) * 100)
  else acceptTrail n r s

/-- The FLT takes a TRAIL edge at sensor node `n` (R61, R82). -/
def takeTrail (n z : Nat) (stamp : Travel) (s : State) : State :=
  if moving s then
    match s.flt.list.find? fun r => r.trailExp.any fun e => e.node == n with
    | some r =>
      match r.trailExp with
      | some e =>
        let t := if e.zone = z then travelDiff stamp e.ref else travelDiff (travelOf s e.zone) e.ref
        judgeTrail n t r e s
      | none => s
    | none => s
  else s

/-! ## A node fails (R29, R58, R64) -/

/-- One record when node `n` becomes FAILED. -/
def failRecord (n : Nat) (s : State) (sheet : Nat) : State :=
  match findRec s sheet with
  | some r =>
    let lead := r.leadExp.any fun e => e.node == n
    let next := r.trailStep < r.lead.step && trailNext s.pms r == some n
    let q := if lead then
        { r with leadExp := none
                 progress := .moving
                 lead := if r.progress = .announced then
                     { r.lead with ref := travelOf s (((leadSeg s.pms r).map (·.zone)).getD 0) } else r.lead }
      else r
    let q := if next then
        { q with trailExp := none
                 arrivals := match q.arrivals with
                   | a :: as => if a.node = n then as else a :: as
                   | [] => [] }
      else q
    let s := putRec q s
    if lead || next then settle sheet s else s
  | none => s

def failNodeRecords (n : Nat) (s : State) : State := (sheetsOf s).foldl (failRecord n) s

/-! ## Remote edge reports (R61, R89, R91) -/

/-- The lead has already arrived at node `n`: a step before the lead's ends there. -/
def leadBeyond (m : MapStore) (r : Record) (n : Nat) : Bool :=
  ((pathOf m r).take (r.lead.step - 1)).any fun i => (m.seg? i).any fun g => g.dst == n

/-- The trail has already crossed node `n`: a step before the trail's ends there. -/
def trailBeyond (m : MapStore) (r : Record) (n : Nat) : Bool :=
  ((pathOf m r).take (r.trailStep - 1)).any fun i => (m.seg? i).any fun g => g.dst == n

/-- An accepted LEAD report: the lead moves on, with no arrivals entry (R62, R89). -/
def acceptRemote (r : Record) (s : State) : State := settle r.sheet (takeStep 0 [] r s)

/-- A LEAD report matched to a remote window (R89). A window whose times are not formed yet has no early to judge against: the
report is accepted (log 48). -/
def judgeRemote (n age : Nat) (r : Record) (e : LeadExp) (s : State) : State :=
  let t := e.elapsed - age
  match e.times with
  | some (early, _) =>
    if judged s r ∧ t < early then raiseSheet .early r.sheet n e.zone (some (t : Nat)) (some (early : Nat)) s
    else acceptRemote r s
  | none => acceptRemote r s

/-- The FLT takes a LEAD report of station `k` at REMOTE node `n`. -/
def takeRemoteLead (k n sheet age : Nat) (s : State) : State :=
  if moving s then
    match findRec s sheet with
    | some r =>
      match r.leadExp with
      | some e =>
        if e.kind = .remote ∧ e.node = n then judgeRemote n age r e s
        else if leadBeyond s.pms r n then stationNotice k (.errorSheet sheet) s
        else if positioning s then raiseUnexpected n s else s
      | none =>
        if leadBeyond s.pms r n then stationNotice k (.errorSheet sheet) s
        else if positioning s then raiseUnexpected n s else s
    | none => stationNotice k (.errorSheet sheet) s
  else s

/-- The FLT takes a TRAIL report of station `k` at REMOTE node `n` (R91). While the trail step is the lead's, the trail crosses nothing
(R64), and the report is one of the others (log 67). -/
def takeRemoteTrail (k n sheet : Nat) (s : State) : State :=
  if moving s then
    match findRec s sheet with
    | some r =>
      if r.progress = .moving ∧ r.trailStep < r.lead.step ∧ trailNext s.pms r = some n then settle sheet (crossTrail r s)
      else if trailBeyond s.pms r n then s
      else stationNotice k (.errorSheet sheet) s
    | none => stationNotice k (.errorSheet sheet) s
  else s

end Sys2Proof.Machine
end

