-- ==== Sys2Proof/Machine/Sensors.lean ====
section
/-! DEFINITION. The sensor front end: samples, edges, baselines, health, calibration and cover inputs (R18 to R31), and their
commands CALIBRATE, SENSOR_EDGE, BASELINE_TRACK, CALIBRATE_END and COVER_EVENT. -/

namespace Sys2Proof.Machine

/-! ## Level events (R22, R128) -/

/-- An area with no cover that is listed and NEEDED becomes due for an immediate check (R128). -/
def dueIfBare (a : Nat) (s : State) : State :=
  if s.clm.list.contains a ∧ (areaAt s a).status = .needed ∧ noCover s a then makeDue a s else s

/-- The CLM takes a level event of node `n`: only a new level CLEAR matters to it (R22, R127, R128). -/
def levelEvent (n : Nat) (level : Level) (s : State) : State :=
  match nodeArea s.pms n with
  | some a => if level = .clear then dueIfBare a s else s
  | none => s

/-! ## Health (R27 to R29) -/

def healthAfter (h : Health) (setting : Setting) (b : Nat) : Health :=
  match h, setting with
  | .ok, _ => if b < 200 then .failed else if b < 400 then .degraded else .ok
  | .degraded, _ => if b < 200 then .failed else if b < 440 then .degraded else .ok
  | .failed, .calibrate => if b < 200 then .failed else if b < 400 then .degraded else .ok
  | .failed, _ => .failed

/-- A node becomes FAILED: the FLT and the CLM act on their own state (R29). -/
def nodeFailed (n : Nat) (s : State) : State :=
  let s := failNodeRecords n s
  match nodeArea s.pms n with
  | some a => dueIfBare a s
  | none => s

/-- The node's state with a new baseline, its health judged; a FAILED node's level is UNSET and its run 0 (R27, R29). -/
def withBaseline (b : Nat) (setting : Setting) (q : NodeState) : NodeState :=
  let h := healthAfter q.health setting b
  { q with
    baseline := some b
    health := h
    level := if h = .failed then .unset else q.level
    run := if h = .failed then 0 else q.run }

/-- A baseline is set or changed: health, SENSOR notice, and the failure handed on (R27 to R29). The notice stands before those
that the failure brings (log 44). -/
def setBaseline (n b : Nat) (setting : Setting) (s : State) : State :=
  let before := (nodeAt s n).health
  let q := withBaseline b setting (nodeAt s n)
  let s := setNode n q s
  if q.health = before then s
  else
    let s := post (.sensor n before q.health b setting) s
    if q.health = .failed then nodeFailed n s else s

/-! ## Levels set at once (R23) -/

/-- The level that R23 gives from the latest sample: CLEAR above the clear level, COVERED otherwise, and as it stands when there
are no levels. A node with no sample yet is COVERED (log 16). -/
def levelNow (m : MapStore) (q : NodeState) : Level :=
  if q.health = .failed then .unset
  else
    match q.baseline.bind (levelsOf m) with
    | some (_, clear) => if q.latest.any (fun x => clear < x) then .clear else .covered
    | none => q.level

/-- Sets the level at once, with a level event on a change between CLEAR and COVERED. -/
def setLevelNow (n : Nat) (s : State) : State :=
  let q := nodeAt s n
  let l := levelNow s.pms q
  let s := setNode n { q with level := l, run := 0 } s
  if q.level ≠ l ∧ q.level ≠ .unset ∧ l ≠ .unset then levelEvent n l s else s

/-! ## Samples (R19 to R22) -/

/-- The judgement of one sample (R21): the node's state after it, and whether it ended in an edge (true is LEAD). -/
def judgeSample (m : MapStore) (x : Nat) (q : NodeState) : NodeState × Option Bool :=
  let q := { q with latest := some x }
  match q.level, q.baseline.bind (levelsOf m) with
  | .clear, some (cover, _) =>
    if x < cover then
      if q.run = 0 then ({ q with run := 1 }, none) else ({ q with level := .covered, run := 0 }, some true)
    else ({ q with run := 0 }, none)
  | .covered, some (_, clear) =>
    if clear < x then
      if q.run = 0 then ({ q with run := 1 }, none) else ({ q with level := .clear, run := 0 }, some false)
    else ({ q with run := 0 }, none)
  | _, _ => ({ q with run := 0 }, none)

/-- An edge of node `n`: one edge event for the FLT and one level event for the CLM (R22). -/
def edgeEvent (n : Nat) (lead : Bool) (s : State) : State :=
  let z := nodeZone s.pms n
  let stamp := (z.map (travelOf s)).getD 0
  let s := if lead then takeLead n (z.getD 0) stamp s else takeTrail n (z.getD 0) stamp s
  levelEvent n (if lead then .covered else .clear) s

/-- A calibration takes the sample of an input line, up to 16 of them (R24). -/
def accumulate (line x : Nat) (c : Calibration) : Calibration :=
  let k := (c.counts[line]?).getD 16
  if k < 16 then
    { c with counts := c.counts.set line (k + 1), sums := c.sums.set line ((c.sums[line]?).getD 0 + x) }
  else c

/-- One conversion of an input line (R19). -/
def takeSample (line x : Nat) (s : State) : State :=
  let s := setCalib (s.sfe.calib.map (accumulate line x)) s
  match nodeOfLine s.pms line with
  | some n =>
    let (q, edge) := judgeSample s.pms x (nodeAt s n)
    let s := setNode n q s
    match edge with
    | some lead => edgeEvent n lead s
    | none => s
  | none => s

/-- SENSOR_EDGE: two consecutive samples of an input line. -/
def execSensorEdge (line first second : Nat) (s : State) : Host.Outcome State Fault Refusal :=
  let s := { s with pins := { s.pins with sensors := s.pins.sensors.set line second } }
  .next (takeEvent (fun s => takeSample line second (takeSample line first s)) s)

/-! ## Tracking (R26) -/

/-- The conditions of R26 on one node. A lead whose expectation at the node is still open holds tracking back when its remaining
distance, read with its sign, is 5000 µm or less, so one that has run past the node does too, however far (DESIGN CHOICE, log 77). -/
def tracked (s : State) (n : Nat) : Bool :=
  let q := nodeAt s n
  q.health != .failed && q.level == .clear && s.sfe.calib.isNone &&
  !(s.flt.list.any fun r =>
    liesOver s.pms r n ||
    (r.leadExp.any (fun e => e.node == n) && remainingSigned s.pms r ≤ 5000) ||
    (reversingAt s.pms n r).isSome)

/-- The baseline a sixteenth of the way toward the latest sample. -/
def trackedBaseline (b x : Nat) : Nat := ((b : Int) + ((x : Int) - b).tdiv 16).toNat

def trackNode (s : State) (n : Nat) : State :=
  match (nodeAt s n).baseline, (nodeAt s n).latest with
  | some b, some x => if trackedBaseline b x = b then s else setBaseline n (trackedBaseline b x) .tracking s
  | _, _ => s

/-- BASELINE_TRACK: the 16 ms moment, the nodes in ascending index (log 43). -/
def execBaselineTrack (s : State) : Host.Outcome State Fault Refusal :=
  .next (takeEvent (fun s => (((sensorNodes s.pms).map (·.1)).filter (tracked s)).foldl trackNode s) s)

/-! ## Calibration (R24, R25) -/

/-- CALIBRATE is accepted (R24). -/
def calibrateAllowed (s : State) : Bool :=
  match s.rcv.path with
  | .config => true
  | .clearing => allCoversClosed s
  | _ => false

/-- The CALIBRATE request in its owning block. -/
def performCalibrate (tag : Byte) (s : State) : State :=
  if calibrateAllowed s then
    if (sensorNodes s.pms).isEmpty then done kCALIBRATE tag (list8 [] ++ u8 0) s
    else replyLater kCALIBRATE tag
      (setCalib (some ⟨tag, List.replicate 24 0, List.replicate 24 0, 0⟩) s)
  else refuse kCALIBRATE tag .state s

def execCalibrate (tag : Byte) (s : State) : Host.Outcome State Fault Refusal :=
  .next (takeRequest kCALIBRATE tag (performCalibrate tag) s)

/-- The mean of 16 samples of a line; samples that have not been taken stand at the pin's level. -/
def meanOf (s : State) (c : Calibration) (line : Nat) : Nat :=
  (((c.sums[line]?).getD 0) + (16 - (c.counts[line]?).getD 0) * (s.pins.sensors[line]?).getD 0) / 16

/-- A node qualifies when twice its mean is at least its expected clear level (R24). -/
def qualifies (s : State) (c : Calibration) (e : NodeEntry) : Bool :=
  e.clearLevel.getD 0 ≤ 2 * meanOf s c (e.line.getD 0)

/-- A node whose 16 samples were not all brought has the pin's level as its latest sample (R24, log 34). -/
def lastSample (c : Calibration) (s : State) (n : Nat) (e : NodeEntry) : State :=
  let line := e.line.getD 0
  if (c.counts[line]?).getD 0 < 16 then setNode n { nodeAt s n with latest := some ((s.pins.sensors[line]?).getD 0) } s else s

/-- The end of the sampling: each qualifying node takes its mean (R24), the nodes in ascending index (log 43). -/
def endCalibration (c : Calibration) (s : State) : State :=
  let nodes := sensorNodes s.pms
  let s := nodes.foldl (fun t p => lastSample c t p.1 p.2) s
  let good := nodes.filter fun p => qualifies s c p.2
  let bad := nodes.filter fun p => !qualifies s c p.2
  let s' := good.foldl (fun t p => setLevelNow p.1 (setBaseline p.1 (meanOf s c (p.2.line.getD 0)) .calibrate t))
    (setCalib none s)
  done kCALIBRATE c.tag (list8 (bad.map fun p => u8 p.1) ++ u8 good.length) s'

/-- CALIBRATE_END: the last of the 16 samples. Without a calibration nothing happens. -/
def execCalibrateEnd (s : State) : Host.Outcome State Fault Refusal :=
  .next (takeEvent (fun s =>
    match s.sfe.calib with
    | some c => endCalibration c s
    | none => s) s)

/-! ## Covers (R31) -/

/-- The debounced state of a local cover line changes. -/
def coverFlips (line : Nat) (isOpen : Bool) (s : State) : State :=
  let s := { s with sfe := { s.sfe with
    covers := s.sfe.covers.set line isOpen, coverCount := s.sfe.coverCount.set line 0 } }
  coverChanged (.line line) isOpen s

/-- COVER_EVENT: the 20th consecutive sample of a cover line at `isOpen`. -/
def execCoverEvent (line : Nat) (isOpen : Bool) (s : State) : Host.Outcome State Fault Refusal :=
  let s := { s with pins := { s.pins with covers := s.pins.covers.set line isOpen } }
  .next (takeEvent (fun s => if (s.sfe.covers[line]?) = some (!isOpen) then coverFlips line isOpen s else s) s)

end Sys2Proof.Machine
end

