-- ==== Sys2Proof/Machine/Arming.lean ====
section
/-! DEFINITION. ARM with its validation, gate test and end (R17, R23, R46, R98), and DISARM (R99). -/

namespace Sys2Proof.Machine

/-! ## Validation (R17, step 2) -/

/-- One check: its table, the entry's index, the failure code, and whether it holds. -/
structure Check where
  table : Nat
  index : Nat
  code : Nat
  holds : Bool
  deriving DecidableEq, Repr

/-- A defined DEST node with the purge-bin flag. -/
def isPurgeBin (m : MapStore) (n : Nat) : Bool :=
  (m.node? n).any fun e => e.kind == .dest && e.purgeBin == some true

def endsAtPurgeBin (m : MapStore) (steps : List Nat) : Bool := (endOf m steps).any (isPurgeBin m)

def checkParams (m : MapStore) : List Check := [⟨0, 0, cUNDEFINED, m.params.isSome⟩]

def checkNode (m : MapStore) (n : Nat) (e : NodeEntry) : List Check :=
  [ ⟨1, n, cMISSING, (m.area? e.area).isSome⟩,
    ⟨1, n, cORPHAN, e.kind != .sensor || (definedEntries m.segs).any fun p => p.2.dst == n⟩ ]

/-- A REMOTE segment ends inside or at a station, and a segment ending at a REMOTE node is REMOTE. -/
def remoteKindHolds (m : MapStore) (e : SegEntry) : Bool :=
  (e.kind != .remote || (stationOfNode m e.dst).isSome) &&
  (nodeKind m e.dst != some .remote || e.kind == .remote)

def checkPurge (m : MapStore) (i : Nat) : Option Nat → List Check
  | none => []
  | some p =>
    [ ⟨2, i, cMISSING, (m.route? p).isSome⟩,
      ⟨2, i, cPURGE_FLAG, (m.route? p).any (·.purge)⟩,
      ⟨2, i, cPURGE_BIN, endsAtPurgeBin m (routeSteps m p)⟩,
      ⟨2, i, cPURGE_STEP, (routeSteps m p).contains i⟩ ]

def checkSeg (m : MapStore) (i : Nat) (e : SegEntry) : List Check :=
  [ ⟨2, i, cMISSING, (m.node? e.src).isSome && (m.node? e.dst).isSome && (m.zone? e.zone).isSome && (m.area? e.area).isSome⟩,
    ⟨2, i, cZONE_CONFLICT, (definedEntries m.segs).all fun (j, q) => i ≤ j || q.dst != e.dst || q.zone == e.zone⟩,
    ⟨2, i, cREMOTE_KIND, remoteKindHolds m e⟩ ] ++ checkPurge m i e.purgeRoute

/-- The segments of consecutive steps. -/
def segPairs (m : MapStore) (steps : List Nat) : List (SegEntry × Nat × SegEntry) :=
  (stepPairs steps 1).filterMap fun (a, b) => (m.seg? a).bind fun x => (m.seg? b).map fun y => (x, b, y)

/-- Step 1 is a FEED segment and no later step is. -/
def feedPlaced (m : MapStore) (steps : List Nat) : Bool :=
  match steps with
  | [] => false
  | a :: rest => (m.seg? a).any (fun e => e.kind == .feed) && rest.all fun b => (m.seg? b).all fun e => e.kind != .feed

/-- Each step starts where the one before it ends, and after a REVERSE step at that step's from node. -/
def connected (m : MapStore) (steps : List Nat) : Bool :=
  (segPairs m steps).all fun (a, _, b) => b.src == if a.kind = .reverse then a.src else a.dst

def endsAtDest (m : MapStore) (steps : List Nat) : Bool :=
  (endOf m steps).any (fun n => nodeKind m n == some .dest) &&
  steps.dropLast.all fun i => (m.seg? i).all fun e => nodeKind m e.dst != some .dest

/-- A step after one that ends at a gate's node is one of that gate's segments. -/
def gatesBranch (m : MapStore) (steps : List Nat) : Bool :=
  (segPairs m steps).all fun (a, b, _) =>
    (definedEntries m.gates).all fun (_, g) => g.node != a.dst || b == g.seg0 || b == g.seg1

def leavesReverse (m : MapStore) (steps : List Nat) : Bool :=
  (steps.getLast?.bind m.seg?).all fun e => e.kind != .reverse

def checkRoute (m : MapStore) (r : Nat) (e : RouteEntry) : List Check :=
  [ ⟨3, r, cMISSING, e.steps.all fun i => (m.seg? i).isSome⟩,
    ⟨3, r, cFEED_PLACE, feedPlaced m e.steps⟩,
    ⟨3, r, cBROKEN, connected m e.steps⟩,
    ⟨3, r, cNO_DEST, endsAtDest m e.steps⟩,
    ⟨3, r, cPURGE_BIN, e.purge == endsAtPurgeBin m e.steps⟩,
    ⟨3, r, cGATE_BRANCH, gatesBranch m e.steps⟩,
    ⟨3, r, cREVERSE_EXIT, leavesReverse m e.steps⟩,
    ⟨3, r, cTRANSFER_COUNT, transferCount m e.steps ≤ 2⟩ ]

def checkGate (m : MapStore) (g : Nat) (e : GateEntry) : List Check :=
  [ ⟨6, g, cMISSING, (m.node? e.node).isSome && (m.seg? e.seg0).isSome && (m.seg? e.seg1).isSome⟩,
    ⟨6, g, cGATE_BRANCH, (m.seg? e.seg0).any (fun q => q.src == e.node) && (m.seg? e.seg1).any fun q => q.src == e.node⟩ ]

def checkMedia (m : MapStore) : List Check := [⟨7, 0, cUNDEFINED, (m.media? 0).isSome⟩]

/-- Every check in the order of R17: tables 0 to 7, entries in index order. -/
def mapChecks (m : MapStore) : List Check :=
  checkParams m ++
  (definedEntries m.nodes).flatMap (fun (n, e) => checkNode m n e) ++
  (definedEntries m.segs).flatMap (fun (i, e) => checkSeg m i e) ++
  (definedEntries m.routes).flatMap (fun (r, e) => checkRoute m r e) ++
  (definedEntries m.gates).flatMap (fun (g, e) => checkGate m g e) ++
  checkMedia m

/-- The first check that fails. -/
def validate (m : MapStore) : Option Check := (mapChecks m).find? fun c => !c.holds

/-! ## The end of ARM (R23, R98) -/

def refuseMap (tag : Byte) (table index code : Nat) (s : State) : State :=
  answer kARM tag .map false (u8 table ++ u8 index ++ u8 code) s

/-- R23 at every node: baseline and health first, then the level from the latest sample. -/
def armNode (s : State) (p : Nat × NodeEntry) : State :=
  setLevelNow p.1 (setBaseline p.1 (p.2.clearLevel.getD 0) .arm s)

/-- RESIDUAL at a covered node, with its zone, its latest sample and its clear level (R92). -/
def residualAt (s : State) (n : Nat) : JamCause :=
  let q := nodeAt s n
  causeNow s .residual none (some n) (nodeZone s.pms n) (q.latest.map fun x => (x : Int))
    ((q.baseline.bind (levelsOf s.pms)).map fun l => (l.2 : Int))

/-- The areas of every open cover. -/
def openAreas (s : State) : List Nat := areaSet fun a => coverOf s a == some true

/-- The jam record that ARM leads to CLEARING with, if any (R98). -/
def armJam (s : State) : Option JamRecord :=
  match ((sensorNodes s.pms).map (·.1)).find? (covered s) with
  | some n => some ⟨some (residualAt s n), none, unionAreas (nodeAreas s.pms n) (openAreas s)⟩
  | none =>
    if (openAreas s).isEmpty then none
    else some ⟨some (causeNow s .cover none none none none none), none, openAreas s⟩

/-- Entry to CLEARING at ARM: the halt, the JAM notice, then the list (R98). -/
def armClears (j : JamRecord) (s : State) : State :=
  enterClearing (post (.jam false j) (haltZones (setJam j s)))

/-- Step 4 of ARM: baselines and levels, the nodes in ascending index (log 43), the path state, and the reply with the first
cause (0xFF when ARMED). -/
def armComplete (tag : Byte) (s : State) : State :=
  let s := setArmTest none ((sensorNodes s.pms).foldl armNode s)
  match armJam s with
  | some j =>
    let s := armClears j s
    done kARM tag (u8 s.rcv.path.code ++ opt8 (j.first.map fun c => c.cause.code)) s
  | none =>
    let s := enterArmed s
    done kARM tag (u8 s.rcv.path.code ++ opt8 none) s

/-! ## The gate test (R46) -/

def confirmedAt (s : State) (g : Nat) : Bool := (gateAt s g).status == .confirmed

/-- Tests the gates of a list, one after another, until one has to move. -/
def advanceTest (tag : Byte) : List (Nat × GateEntry) → State → State
  | [], s => armComplete tag s
  | (g, e) :: rest, s =>
    let s := commandGate g e true s
    if confirmedAt s g then
      let s := commandGate g e false s
      if confirmedAt s g then advanceTest tag rest s else setArmTest (some ⟨tag, g, false⟩) s
    else setArmTest (some ⟨tag, g, true⟩) s

/-- The gate under test may have confirmed: it is driven to position 0, or the next gate is tested. -/
def gateTestStep (s : State) : State :=
  match s.zdu.armTest with
  | some t =>
    if confirmedAt s t.gate then
      match s.pms.gate? t.gate with
      | some e =>
        let rest := (definedEntries s.pms.gates).filter fun p => t.gate < p.1
        if t.pos then
          let s := commandGate t.gate e false s
          if confirmedAt s t.gate then advanceTest t.tag rest s else setArmTest (some ⟨t.tag, t.gate, false⟩) s
        else advanceTest t.tag rest s
      | none => s
    else s
  | none => s

/-- The gate under test fails: ARM is refused with GATE_TEST (R46). -/
def gateTestFails (g : Nat) (s : State) : State :=
  match s.zdu.armTest with
  | some t => if t.gate = g then refuseMap t.tag 6 g cGATE_TEST (setArmTest none s) else s
  | none => s

/-- The ARM request in its owning block. -/
def performArm (tag : Byte) (s : State) : State :=
  if s.rcv.path ≠ .config then refuse kARM tag .state s
  else if s.spm.pendingMark then refuse kARM tag .snapshotPending s
  else
    match validate s.pms with
    | some c => refuseMap tag c.table c.index c.code s
    | none => advanceTest tag (definedEntries s.pms.gates) (replyLater kARM tag s)

def execArm (tag : Byte) (s : State) : Host.Outcome State Fault Refusal :=
  .next (takeRequest kARM tag (performArm tag) s)

/-! ## DISARM (R99, R133) -/

def disarmAllowed (s : State) : Bool :=
  s.rcv.path == .armed || (s.rcv.path == .resumable && s.flt.list.isEmpty)

def performDisarm (tag : Byte) (s : State) : State :=
  if disarmAllowed s then
    done kDISARM tag []
      (setRpq { s.rpq with abandoned := [] } (setPath .config (setJam .empty (haltZones s))))
  else refuse kDISARM tag .state s

def execDisarm (tag : Byte) (s : State) : Host.Outcome State Fault Refusal :=
  .next (takeRequest kDISARM tag (performDisarm tag) s)

end Sys2Proof.Machine
end

