-- ==== Sys2Proof/Machine/Drives.lean ====
section
/-! DEFINITION. The commands of the zone drive unit: SPEED, GATE, QUERY ZONES, GATE_FEEDBACK, GATE_SWITCH_TIMEOUT, ENCODER_EDGE,
INVALID_STEP and STALL (chapter 3). -/

namespace Sys2Proof.Machine

/-! ## SPEED (R35) -/

def hostDrives (s : State) : Bool :=
  match s.rcv.path with
  | .config | .armed | .running => true
  | _ => false

def dirOf : Nat → Option Dir
  | 0 => some .forward
  | 1 => some .reverse
  | _ => none

/-- An accepted SPEED: the stored speed, with a speed change when it differs from the one held. -/
def applySpeed (z v : Nat) (d : Dir) (s : State) : State :=
  let s' := driveZone z v d s
  if v = speedOf s z then s' else speedChange z v s'

def performSpeed (tag : Byte) (z spd dir : Nat) (s : State) : State :=
  if hostDrives s then
    match s.pms.zone? z, dirOf dir with
    | some e, some d =>
      let v := min spd e.vmax
      let s := applySpeed z v d s
      answer kSPEED tag .done (e.vmax < spd) (u8 z ++ u16 v ++ u8 d.code ++ u16 (zoneAt s z).duty) s
    | _, _ => refuse kSPEED tag .field s
  else refuse kSPEED tag .state s

def execSpeed (tag : Byte) (z spd dir : Nat) (s : State) : Host.Outcome State Fault Refusal :=
  .next (takeRequest kSPEED tag (performSpeed tag z spd dir) s)

/-! ## GATE (R47) -/

/-- RELEASE: the gate is undriven and its timer stops (R43). -/
def released (q : GateState) : GateState := { q with cmd := none, status := .undriven, expired := false }

/-- A position byte of GATE. -/
def positionOf : Nat → Option (Option Bool)
  | 0 => some (some false)
  | 1 => some (some true)
  | 2 => some none
  | _ => none

def applyGate (g : Nat) (e : GateEntry) (p : Option Bool) (s : State) : State :=
  match p with
  | some b => commandGate g e b s
  | none => setGate g (released (gateAt s g)) s

def performGate (tag : Byte) (g pos : Nat) (s : State) : State :=
  if s.rcv.path = .config then
    match s.pms.gate? g, positionOf pos with
    | some e, some p =>
      let s := applyGate g e p s
      done kGATE tag (u8 g ++ u8 (posCode p) ++ flag8 (readingOf s e) ++ u8 (gateAt s g).status.code) s
    | _, _ => refuse kGATE tag .field s
  else refuse kGATE tag .state s

def execGate (tag : Byte) (g pos : Nat) (s : State) : Host.Outcome State Fault Refusal :=
  .next (takeRequest kGATE tag (performGate tag g pos) s)

/-! ## QUERY ZONES (R48) -/

def zoneFields (s : State) (z : Nat) : List Byte :=
  let q := zoneAt s z
  u8 z ++ u16 q.speed ++ u8 q.dir.code ++ u16 q.duty ++ i32 q.travel.toInt ++ u16 q.age ++ flag8 q.stallMark ++
    u16 q.stepErrors

def gateFields (s : State) (g : Nat) (e : GateEntry) : List Byte :=
  let q := gateAt s g
  u8 g ++ u8 (posCode q.cmd) ++ flag8 (readingOf s e) ++ u8 q.status.code ++ u8 q.timer ++ flag8 q.faulted ++ opt16 q.serving

def zonesReply (s : State) : Nat → Option (List Byte)
  | 0 => some (list8 (((definedEntries s.pms.zones).filter fun p => p.1 < 4).map fun p => zoneFields s p.1))
  | 1 => some (list8 (((definedEntries s.pms.zones).filter fun p => 4 ≤ p.1).map fun p => zoneFields s p.1))
  | 2 => some (list8 ((definedEntries s.pms.gates).map fun p => gateFields s p.1 p.2))
  | _ => none

def performQueryZones (tag : Byte) (part : Nat) (s : State) : State :=
  match zonesReply s part with
  | some bs => done kQUERY tag bs s
  | none => refuse kQUERY tag .field s

def execQueryZones (tag : Byte) (part : Nat) (s : State) : Host.Outcome State Fault Refusal :=
  .next (takeRequest kQUERY tag (performQueryZones tag part) s)

/-! ## GATE_FEEDBACK (R32, R43, R45, R46) -/

/-- A gate's state after its reading has become `pos` (R43). -/
def afterReading (pos : Bool) (q : GateState) : GateState :=
  if q.cmd = some pos then
    if q.status = .moving then { q with status := .confirmed, faulted := false } else q
  else if q.status = .confirmed then { q with status := .moving, timer := 0, expired := false }
  else q

/-- The reading `pos` takes a gate's confirmation away (R43). -/
def losesConfirmation (pos : Bool) (q : GateState) : Bool := q.status == .confirmed && q.cmd != some pos

/-- The gate of the line: its status, a move under a sheet, and the guard case when it loses confirmation (R43, R45). -/
def gateReads (pos : Bool) (s : State) (p : Nat × GateEntry) : State :=
  let q := gateAt s p.1
  let s := setGate p.1 (afterReading pos q) s
  let s := if positioning s && bodyOver s p.2 then gateJam p.1 p.2 none none s else s
  if losesConfirmation pos q then guardJudge p.1 s else s

/-- The reading of a feedback line changes. -/
def feedbackFlips (line : Nat) (pos : Bool) (s : State) : State :=
  let s := { s with sfe := { s.sfe with
    feedback := s.sfe.feedback.set line pos, feedbackRun := s.sfe.feedbackRun.set line 0 } }
  gateTestStep (((definedEntries s.pms.gates).filter fun p => p.2.fbLine == line).foldl (gateReads pos) s)

def execGateFeedback (line : Nat) (pos : Bool) (s : State) : Host.Outcome State Fault Refusal :=
  let s := { s with pins := { s.pins with feedback := s.pins.feedback.set line pos } }
  .next (takeEvent (fun s => if (s.sfe.feedback[line]?) = some (!pos) then feedbackFlips line pos s else s) s)

/-! ## GATE_SWITCH_TIMEOUT (R43, R45, R46) -/

/-- The gate fails to switch: a GATE jam in RUNNING and RUNOUT, FAULTED otherwise. Its timer stops at the switch time. -/
def failSwitch (g : Nat) (e : GateEntry) (s : State) : State :=
  let s := setGate g { gateAt s g with timer := e.switchTime, expired := true } s
  if positioning s then gateJam g e (some (e.switchTime : Nat)) (some (e.switchTime : Nat)) s
  else gateTestFails g (setGate g { gateAt s g with faulted := true } s)

/-- The timer of a MOVING gate runs, with the reading still away from the command. -/
def switching (s : State) (g : Nat) : Bool := (gateAt s g).status == .moving && !(gateAt s g).expired

def execGateSwitchTimeout (g : Nat) (s : State) : Host.Outcome State Fault Refusal :=
  .next (takeEvent (fun s =>
    match s.pms.gate? g with
    | some e => if switching s g ∧ e.switchTime ≤ (gateAt s g).timer then failSwitch g e s else s
    | none => s) s)

/-! ## ENCODER_EDGE and INVALID_STEP (R34, R40, R45) -/

/-- The pair moves on in its cycle; this is the level of the inputs, and moves in reset too. -/
def turnPhase (z k : Nat) (s : State) : State :=
  let q := zoneAt s z
  setZone z { q with phase := (q.phase + k) % 4 } s

/-- A counted edge of a defined zone (R40). Of several causes that it brings, a REVERSAL and a GATE at a mark come first, as the
records move, then the windows, then the other guard cases (R45, log 65). -/
def countEdge (z pitch : Nat) (forward : Bool) (s : State) : State :=
  let q := zoneAt s z
  let step : Travel := BitVec.ofNat 32 pitch
  let s := setZone z { q with
    travel := if forward then q.travel + step else q.travel - step
    age := 0
    stallMark := false } s
  guardEdges z (takeIncrement z (setQuiet 0 s))

def execEncoderEdge (z : Nat) (forward : Bool) (s : State) : Host.Outcome State Fault Refusal :=
  .next (takeEvent (fun s =>
    match s.pms.zone? z with
    | some e => countEdge z e.pitch forward s
    | none => s) (turnPhase z (if forward then 1 else 3) s))

def execInvalidStep (z : Nat) (s : State) : Host.Outcome State Fault Refusal :=
  .next (takeEvent (fun s =>
    if (s.pms.zone? z).isSome then
      let q := zoneAt s z
      setZone z { q with stepErrors := min (q.stepErrors + 1) 65535 } s
    else s) (turnPhase z 2 s))

/-! ## STALL (R41) -/

/-- STALL's cause: its zone, the edge age and the stall time. -/
def stallCause (z : Nat) (e : ZoneEntry) (s : State) : JamCause :=
  causeNow s .stall none none (some z) (some ((zoneAt s z).age : Nat)) (some (e.stallTime : Nat))

/-- STALL is handed on by the path state (R41). -/
def handStall (z : Nat) (e : ZoneEntry) (s : State) : State :=
  match s.rcv.path with
  | .running | .runout => raiseJam (stallCause z e s) (stallAreas s z) s
  | .config | .armed => post (.jam true ⟨some (stallCause z e s), none, []⟩) s
  | .halting | .clearing | .resumable => s

def execStall (z : Nat) (s : State) : Host.Outcome State Fault Refusal :=
  .next (takeEvent (fun s =>
    match s.pms.zone? z with
    | some e =>
      let q := zoneAt s z
      if q.speed ≠ 0 ∧ q.stallMark = false ∧ e.stallTime ≤ q.age then
        handStall z e (setZone z { q with stallMark := true } s)
      else s
    | none => s) s)

end Sys2Proof.Machine
end

