-- ==== Sys2Proof/Machine/MapTables.lean ====
section
/-! DEFINITION. The path map store's commands MAP_PUT and MAP_GET (R2 to R6, R15). -/

namespace Sys2Proof.Machine

/-! ## Tables -/

/-- `f` at the `n` places of a list from place `k` on. -/
def mapRange {α : Type} (f : α → α) : Nat → Nat → List α → List α
  | _, 0, l => l
  | _, _ + 1, [] => []
  | 0, n + 1, x :: xs => f x :: mapRange f 0 n xs
  | k + 1, n + 1, x :: xs => x :: mapRange f k (n + 1) xs

/-- The entries `new` in place of those from place `k` on. -/
def writeFrom {α : Type} : Nat → List α → List (Option α) → List (Option α)
  | _, [], l => l
  | _, _ :: _, [] => []
  | 0, y :: ys, _ :: xs => some y :: writeFrom 0 ys xs
  | k + 1, y :: ys, x :: xs => x :: writeFrom k (y :: ys) xs

/-- Decodes entries in index order; on the left, the index of the first that fails. -/
def decodeAll {α : Type} (decode : List Byte → Option α) : Nat → List (List Byte) → Nat ⊕ List α
  | _, [] => .inr []
  | i, b :: bs =>
    match decode b with
    | none => .inl i
    | some x =>
      match decodeAll decode (i + 1) bs with
      | .inl j => .inl j
      | .inr xs => .inr (x :: xs)

/-- The first of the entries from index `i` on that clashes with another entry of the table as it would stand (R3). -/
def firstClash {α : Type} (clash : α → α → Bool) (t : List (Option α)) : Nat → List α → Option Nat
  | _, [] => none
  | i, x :: xs =>
    if (definedEntries t).any fun p => p.1 != i && clash x p.2 then some i else firstClash clash t (i + 1) xs

/-- The table after a MAP_PUT, or the index of the entry that failed (R3). -/
def putTable {α : Type} (decode : List Byte → Option α) (clash : α → α → Bool) (first : Nat) (bodies : List (List Byte))
    (t : List (Option α)) : Nat ⊕ List (Option α) :=
  match decodeAll decode first bodies with
  | .inl i => .inl i
  | .inr xs =>
    let t' := writeFrom first xs t
    match firstClash clash t' first xs with
    | some i => .inl i
    | none => .inr t'

def noClash {α : Type} (_ _ : α) : Bool := false

/-- Uniqueness checks of nodes: the input line of SENSOR nodes, station and local number of REMOTE nodes and of station
destinations (R6). -/
def nodeClash (a b : NodeEntry) : Bool :=
  a.kind == b.kind &&
  match a.kind with
  | .sensor => a.line == b.line
  | .remote => a.station == b.station && a.localNo == b.localNo
  | .dest => a.station.isSome && a.station == b.station && a.localNo == b.localNo
  | .mark | .transfer => false

/-- Uniqueness checks of gates (R15). -/
def gateClash (a b : GateEntry) : Bool := a.node == b.node || a.outLine == b.outLine || a.fbLine == b.fbLine

/-! ## MAP_PUT (R2, R3, R4) -/

/-- Replaced node, area, zone and gate entries return their blocks' states to the values after reset (R18, R34, R42, R121). -/
def freshState (table first count : Nat) (s : State) : State :=
  match table with
  | 1 => { s with sfe := { s.sfe with nodes := mapRange (fun _ => NodeState.reset) first count s.sfe.nodes } }
  | 4 => { s with clm := { s.clm with areas := mapRange (fun _ => AreaState.reset) first count s.clm.areas } }
  | 5 => { s with zdu := { s.zdu with zones := mapRange (fun q => ZoneState.reset q.phase) first count s.zdu.zones } }
  | 6 => { s with zdu := { s.zdu with gates := mapRange (fun _ => GateState.reset) first count s.zdu.gates } }
  | _ => s

/-- A table with every entry undefined (R2: an entry count of 0). -/
def clearTable (table : Nat) (m : MapStore) : MapStore :=
  match table with
  | 0 => { m with params := none }
  | 1 => { m with nodes := m.nodes.map fun _ => none }
  | 2 => { m with segs := m.segs.map fun _ => none }
  | 3 => { m with routes := m.routes.map fun _ => none }
  | 4 => { m with areas := m.areas.map fun _ => none }
  | 5 => { m with zones := m.zones.map fun _ => none }
  | 6 => { m with gates := m.gates.map fun _ => none }
  | 7 => { m with media := m.media.map fun _ => none }
  | _ => m

/-- The parameter entry written, with CLAMPED. -/
def putParams (m : MapStore) (bodies : List (List Byte)) : Nat ⊕ (MapStore × Bool) :=
  match bodies with
  | [b] =>
    match decodeParams b with
    | some (p, c) => .inr ({ m with params := some p }, c)
    | none => .inl 0
  | _ => .inl 0

/-- The map after the entries are written, with CLAMPED, or the index of the entry that failed. -/
def putEntries (m : MapStore) (table first : Nat) (bodies : List (List Byte)) : Nat ⊕ (MapStore × Bool) :=
  match table with
  | 0 => putParams m bodies
  | 1 => (putTable decodeNode nodeClash first bodies m.nodes).map id fun t => ({ m with nodes := t }, false)
  | 2 => (putTable decodeSeg noClash first bodies m.segs).map id fun t => ({ m with segs := t }, false)
  | 3 => (putTable decodeRoute noClash first bodies m.routes).map id fun t => ({ m with routes := t }, false)
  | 4 => (putTable decodeArea noClash first bodies m.areas).map id fun t => ({ m with areas := t }, false)
  | 5 => (putTable decodeZone noClash first bodies m.zones).map id fun t => ({ m with zones := t }, false)
  | 6 => (putTable decodeGate gateClash first bodies m.gates).map id fun t => ({ m with gates := t }, false)
  | 7 => (putTable decodeMedia noClash first bodies m.media).map id fun t => ({ m with media := t }, false)
  | _ => .inl first

def setMap (m : MapStore) (s : State) : State := { s with pms := m }

/-- FIELD for MAP_PUT carries the table number and the entry index (R3, R179). -/
def refuseEntry (tag : Byte) (table index : Nat) (s : State) : State :=
  answer kMAP_PUT tag .field false (u8 table ++ u8 index) s

/-- The MAP_PUT request in its owning block. A request that reaches past its table reports the first index that does not exist,
which is its own first index when that lies past the table already (log 42). -/
def performMapPut (tag : Byte) (table first count : Nat) (body : List Byte) (s : State) : State :=
  if s.rcv.path ≠ .config then refuse kMAP_PUT tag .state s
  else if 7 < table then refuseEntry tag table first s
  else if count = 0 then
    done kMAP_PUT tag [] (freshState table 0 (tableSize table) (setMap (clearTable table s.pms) s))
  else if tableSize table < first + count then refuseEntry tag table (max first (tableSize table)) s
  else
    match putEntries s.pms table first (chunks (entryBytes table) count body) with
    | .inl i => refuseEntry tag table i s
    | .inr (m, clamped) => answer kMAP_PUT tag .done clamped [] (freshState table first count (setMap m s))

def execMapPut (tag : Byte) (table first count : Nat) (body : List Byte) (s : State) : Host.Outcome State Fault Refusal :=
  .next (takeRequest kMAP_PUT tag (performMapPut tag table first count body) s)

/-! ## MAP_GET (R5) -/

/-- A defined mark, and the entry's fields when it is defined. -/
def markedEntry {α : Type} (encode : α → List Byte) : Option α → List Byte
  | some e => [1] ++ encode e
  | none => [0]

def tableBytes (m : MapStore) : Nat → List (List Byte)
  | 0 => [markedEntry encodeParams m.params]
  | 1 => m.nodes.map (markedEntry encodeNode)
  | 2 => m.segs.map (markedEntry encodeSeg)
  | 3 => m.routes.map (markedEntry encodeRoute)
  | 4 => m.areas.map (markedEntry encodeArea)
  | 5 => m.zones.map (markedEntry encodeZone)
  | 6 => m.gates.map (markedEntry encodeGate)
  | 7 => m.media.map (markedEntry encodeMedia)
  | _ => []

/-- Payload bytes left for a list after the status byte, the flags byte, the list's count and `used` bytes of other fields. -/
def listRoom (used : Nat) : Nat := Config.maxPayload - 3 - used

def performMapGet (tag : Byte) (table first count : Nat) (s : State) : State :=
  if 7 < table ∨ tableSize table ≤ first ∨ count = 0 then refuse kMAP_GET tag .field s
  else done kMAP_GET tag (list8 (fitting (listRoom 0) (((tableBytes s.pms table).drop first).take count))) s

def execMapGet (tag : Byte) (table first count : Nat) (s : State) : Host.Outcome State Fault Refusal :=
  .next (takeRequest kMAP_GET tag (performMapGet tag table first count) s)

end Sys2Proof.Machine
end

