-- ==== Sys2Proof/Machine/Admission.lean ====
section
/-! DEFINITION. Admission of sheets: SHEET_S and SHEET_F (R52 to R58, R85, R146). -/

namespace Sys2Proof.Machine

/-- What an accepted SHEET request gives its record; `set` is number, position, last flag and staple flag. -/
structure Announced where
  job : Nat
  ordinal : Nat
  route : Nat
  unordered : Bool
  media : Option Nat
  length : Nat
  tolerance : Nat
  doubleMargin : Nat
  slip : Nat
  pageA : Nat
  pageB : Option Nat
  set : Option (Nat × Nat × Bool × Bool)
  deriving DecidableEq, Repr

/-! ## Sheet numbers (R52) -/

def nextNumber (n : Nat) : Nat := if n = 65535 then 1 else n + 1

/-- A number held by a record or by a SHEET entry of the reprint queue. -/
def numberTaken (s : State) (n : Nat) : Bool :=
  (s.flt.list.any fun r => r.sheet == n) ||
  s.rpq.queue.any fun e => match e with | .sheet _ k _ _ _ _ _ _ => k == n | _ => false

def freeNumber (s : State) : Nat → Nat → Nat
  | 0, n => n
  | k + 1, n => if numberTaken s n then freeNumber s k (nextNumber n) else n

/-- The number the next record receives: a free one lies within 89 steps. -/
def sheetNumber (s : State) : Nat := freeNumber s 89 s.flt.counter

/-! ## The checks (R53 to R57) -/

def admitting (s : State) : Bool :=
  match s.rcv.path with
  | .armed | .running => true
  | _ => false

/-- ROUTE is not given (R54). -/
def routeOpen (s : State) (route : Nat) : Bool :=
  (s.pms.route? route).any fun e => !e.purge && routeAvailable s e.steps

def duplexRoute (m : MapStore) (route : Nat) : Bool := transferCount m (routeSteps m route) == 2

/-- The fields of SHEET_S; `none` is FIELD (R55). -/
def fieldsS (m : MapStore) (job ordinal media route pageA : Nat) : Option Announced :=
  match m.media? media with
  | some e =>
    if duplexRoute m route ∧ (e.duplex = false ∨ pageA = 65535) then none
    else some ⟨job, ordinal, route, false, some media, e.length, e.tolerance, e.doubleMargin, e.slip, pageA,
      if duplexRoute m route then some (pageA + 1) else none, none⟩
  | none => none

/-- The set checks of SHEET_F against the route, the flags and the set table (R56). -/
def setFieldOk (s : State) (job route : Nat) (setNo : Option Nat) (last staple unordered : Bool) : Bool :=
  let dest := routeDest s.pms route
  match setNo with
  | none => !last && !staple
  | some n =>
    (stationOfNode s.pms dest).isSome && !unordered &&
    (findSet s job n).all fun e => e.dest == dest && !e.closed && e.staple == staple

/-- The unordered flag agrees with the records of the stream in the list (R56). -/
def agreesUnordered (s : State) (job route : Nat) (unordered : Bool) : Bool :=
  s.flt.list.all fun r => streamOf s.pms r != (job, routeDest s.pms route) || r.unordered == unordered

/-- The media entry of a SHEET_F media byte: 0..15 or 255 for EXPLICIT, which takes entry 0 (R16, R189). -/
def mediaOf (m : MapStore) (media : Nat) : Option (Option Nat × MediaEntry) :=
  if media = 255 then (m.media? 0).map fun e => (none, e)
  else (m.media? media).map fun e => (some media, e)

/-- The declared length of SHEET_F; `none` is FIELD (R56). -/
def declaredOf (code : Option Nat) (e : MediaEntry) (length : Nat) : Option Nat :=
  match code with
  | some _ => if length = 0 then some e.length else none
  | none => if 500 ≤ length ∧ length ≤ 20000 then some length else none

/-- The fields of SHEET_F; `none` is FIELD (R56). -/
def fieldsF (s : State) (job ordinal route media length pageA : Nat) (pageB setNo : Option Nat) (setPos flags : Nat) :
    Option Announced :=
  let duplex := duplexRoute s.pms route
  let last := flags % 2 == 1
  let staple := flags / 2 % 2 == 1
  let unordered := flags / 4 % 2 == 1
  match mediaOf s.pms media with
  | some (code, e) =>
    match declaredOf code e length with
    | some len =>
      if (!duplex || e.duplex) && pageB.isSome == duplex && decide (flags < 8) &&
          setFieldOk s job route setNo last staple unordered && agreesUnordered s job route unordered then
        some ⟨job, ordinal, route, unordered, code, len, e.tolerance, e.doubleMargin, e.slip, pageA, pageB,
          setNo.map fun n => (n, setPos, last, staple)⟩
      else none
    | none => none
  | none => none

/-- ORDER is not given (R57). -/
def inOrder (s : State) (a : Announced) : Bool :=
  a.unordered ||
  s.flt.list.all fun r => streamOf s.pms r != (a.job, routeDest s.pms a.route) || decide (r.ordinal < a.ordinal)

/-- The sheet opens a new set while the set table holds 8 (R53). -/
def setsFull (s : State) (a : Announced) : Bool :=
  a.set.any fun p => (findSet s a.job p.1).isNone && Config.maxSets ≤ s.xlm.sets.length

/-! ## The record (R58) -/

/-- A side that the route images starts NOT_STARTED; the other sides are absent (R10). -/
def freshSide (needed crossings : Nat) : Option Imaging := if needed ≤ crossings then some .notStarted else none

/-- The new record: ANNOUNCED with its pick window, or MOVING at once when no arrival can be seen at step 1's node. -/
def newRecord (s : State) (a : Announced) (sheet : Nat) (part : Option SetPart) : Record :=
  let steps := routeSteps s.pms a.route
  let zone := (((stepNo steps 1).bind s.pms.seg?).map (·.zone)).getD 0
  let dst := (((stepNo steps 1).bind s.pms.seg?).map (·.dst)).getD 0
  let r : Record :=
    { sheet := sheet, job := a.job, ordinal := a.ordinal, route := a.route, unordered := a.unordered, media := a.media
      declared := a.length, tolerance := a.tolerance, doubleMargin := a.doubleMargin, slip := a.slip, measured := none
      pageA := a.pageA, pageB := a.pageB, setPart := part
      progress := if working s dst then .announced else .moving
      lead := ⟨1, travelOf s zone, 0⟩, trailStep := 1, depth := none
      sideA := freshSide 1 (transferCount s.pms steps), sideB := freshSide 2 (transferCount s.pms steps)
      repick := 0, leadExp := none, trailExp := none, arrivals := [], handOff := false, purgeJoin := none, disp := none }
  { r with leadExp := openLead s r }

/-- The set table takes the member (R58 step 5, R146). -/
def joinSet (a : Announced) (s : State) : Option SetPart × State :=
  match a.set with
  | some (number, pos, last, staple) =>
    let (slot, s) := admitToSet a.job number (routeDest s.pms a.route) a.ordinal staple last s
    (some ⟨slot, number, pos, last, staple⟩, s)
  | none => (none, s)

/-- An accepted request (R58): the record joins the tail, ARMED becomes RUNNING, the gate ahead is derived afresh, and a first
step into a station is handed off. -/
def admitSheet (kind tag : Byte) (a : Announced) (s : State) : State :=
  let n := sheetNumber s
  let (part, s) := joinSet a { s with flt := { s.flt with counter := nextNumber n } }
  let r := newRecord s a n part
  let s := setPath .running (setList (s.flt.list ++ [r]) s)
  let s := match leadSeg s.pms r with
    | some g => rederiveAt (some n) g.dst s
    | none => s
  done kind tag (u16 n) (handOffStep n s)

/-- The checks of R53 in their order. -/
def performSheet (kind tag : Byte) (route : Nat) (fields : Option Announced) (s : State) : State :=
  if !admitting s then refuse kind tag .state s
  else if Config.maxRecords ≤ s.flt.list.length then refuse kind tag .full s
  else if !routeOpen s route then refuse kind tag .route s
  else
    match fields with
    | none => refuse kind tag .field s
    | some a =>
      if !inOrder s a then refuse kind tag .order s
      else if setsFull s a then refuse kind tag .full s
      else admitSheet kind tag a s

def performSheetS (tag : Byte) (job ordinal media route pageA : Nat) (s : State) : State :=
  performSheet kSHEET_S tag route (fieldsS s.pms job ordinal media route pageA) s

def performSheetF (tag : Byte) (job ordinal route media length pageA : Nat) (pageB setNo : Option Nat) (setPos flags : Nat)
    (s : State) : State :=
  performSheet kSHEET_F tag route (fieldsF s job ordinal route media length pageA pageB setNo setPos flags) s

def execSheetS (tag : Byte) (job ordinal media route pageA : Nat) (s : State) : Host.Outcome State Fault Refusal :=
  .next (takeRequest kSHEET_S tag (performSheetS tag job ordinal media route pageA) s)

def execSheetF (tag : Byte) (job ordinal route media length pageA : Nat) (pageB setNo : Option Nat) (setPos flags : Nat)
    (s : State) : Host.Outcome State Fault Refusal :=
  .next (takeRequest kSHEET_F tag (performSheetF tag job ordinal route media length pageA pageB setNo setPos flags) s)

end Sys2Proof.Machine
end

