-- ==== Sys2Proof/Machine/Recovery.lean ====
section
/-! DEFINITION. Standstill: the plan, its writing, the run-out and the write-back after a second failure (R104 to R113, R119,
R150), with the command STANDSTILL. -/

namespace Sys2Proof.Machine

/-- What pass 0 leaves for the later passes: breaks (stream and ordinal), the discarded sets, and how many records
were voided. -/
structure PassZero where
  breaks : List ((Nat × Nat) × Nat)
  discarded : List SetEntry
  voided : Nat
  deriving DecidableEq, Repr

/-- Scratch dispositions by sheet number, and the sheets forced to REMOVE. -/
structure Scratch where
  disps : List (Nat × Disp)
  forced : List Nat
  deriving DecidableEq, Repr

def Scratch.of (c : Scratch) (sheet : Nat) : Option Disp := (c.disps.find? fun p => p.1 == sheet).map (·.2)

/-! ## Pass 0 (R106, R150) -/

/-- A set whose compile area is a jam area and whose compiled count is above 0 (R150). -/
def spoiled (s : State) (e : SetEntry) : Bool :=
  (nodeArea s.pms e.dest).any (fun a => s.rcv.jam.areas.contains a) && decide (0 < e.compiled)

/-- The SET entry of a discarded set (R150). -/
def setReprint (e : SetEntry) : ReprintEntry := .set e.job e.number e.firstOrd (e.lastDelivered.getD e.lastAdmitted)

def discardSet (s : State) (e : SetEntry) : State := dropSet e.slot (cancelSet e (offerEntry (setReprint e) s))

def voidSheet (s : State) (r : Record) : State := takeOut r .voided s

def passZero (s : State) : PassZero × State :=
  let sets := s.xlm.sets.filter (spoiled s)
  let s1 := sets.foldl discardSet s
  let voids := s1.flt.list.filter fun r => r.progress == .announced
  let s2 := voids.foldl voidSheet s1
  (⟨sets.map (fun e => ((e.job, e.dest), e.firstOrd)) ++ voids.map (fun r => (streamOf s.pms r, r.ordinal)),
    sets, voids.length⟩, s2)

/-! ## Pass 1 (R107) -/

/-- A record that the first cause names, or whose body touches a jam area. -/
def mustRemove (s : State) (r : Record) : Bool :=
  s.rcv.jam.first.any (fun c => c.sheet == some r.sheet) || (bodyAreas s.pms r).any s.rcv.jam.areas.contains

def passOne (s : State) : Scratch :=
  let hit := (s.flt.list.filter (mustRemove s)).map (·.sheet)
  ⟨hit.map fun n => (n, .remove), hit⟩

/-! ## Pass 2: capabilities (R105, R108, R109) -/

/-- Some other record with one of the dispositions touches a segment with its body. -/
def touchedBy (s : State) (c : Scratch) (p : Disp → Bool) (r : Record) (i : Nat) : Bool :=
  s.flt.list.any fun q => q.sheet != r.sheet && (c.of q.sheet).any p && touchesSeg s.pms q i

/-- A run-out path with no jam area, no REVERSE step and no REMOVE body of another record on it. -/
def pathFree (s : State) (c : Scratch) (r : Record) (steps : List Nat) : Bool :=
  steps.all fun i =>
    (s.pms.seg? i).all (fun g => !s.rcv.jam.areas.contains g.area && g.kind != .reverse) &&
    !touchedBy s c (fun d => d == .remove) r i

def untouched (side : Option Imaging) : Bool := side == none || side == some .notStarted

def imaged (side : Option Imaging) : Bool := side == none || side == some .done

/-- RETAIN-capable (R108). -/
def canRetain (s : State) (r : Record) : Bool :=
  let body := (bodySteps s.pms r).filterMap s.pms.seg?
  body.all (·.retainOk) &&
  ((untouched r.sideA && untouched r.sideB) ||
    (body.all (·.loop) && r.sideA == some .done && r.sideB == some .notStarted))

/-- The route's destination is available (R109): its own station decides, whatever other stations the route passes (R12, log 54). -/
def destOpen (s : State) (r : Record) : Bool :=
  match stationOfNode s.pms (routeDest s.pms r.route) with
  | some k => (stationAt s k).link == .online
  | none => true

/-- The record's set, which is its slot with its key (R145), is not discarded (R109). -/
def setKept (z : PassZero) (r : Record) : Bool :=
  r.setPart.all fun p => !z.discarded.any fun e => e.slot == p.slot && e.job == r.job && e.number == p.number

/-- DELIVER-capable (R109). -/
def canDeliver (s : State) (z : PassZero) (c : Scratch) (r : Record) : Bool :=
  let steps := pathOf s.pms r
  imaged r.sideA && imaged r.sideB && pathFree s c r (steps.drop (r.trailStep - 1)) && destOpen s r &&
  gatesAvailable s steps r.lead.step && setKept z r

/-- The purge join of R109: the purge route of the lead's segment, and its first step that holds that segment. -/
def joinOf (m : MapStore) (r : Record) : Option PurgeJoin :=
  match stepNo (pathOf m r) r.lead.step, (leadSeg m r).bind (·.purgeRoute) with
  | some i, some p =>
    if (routeSteps m p).contains i then some ⟨p, (routeSteps m p).idxOf i + 1, r.lead.step⟩ else none
  | _, _ => none

def joinedPath (m : MapStore) (r : Record) (j : PurgeJoin) : List Nat :=
  joinedSteps m (routeSteps m r.route) j.route j.step j.lead

/-- PURGE-capable (R109). -/
def canPurge (s : State) (c : Scratch) (r : Record) : Bool :=
  (joinOf s.pms r).any fun j =>
    pathFree s c r ((joinedPath s.pms r j).drop (r.trailStep - 1)) && gatesAvailable s (joinedPath s.pms r j) r.lead.step

/-! ## Pass 3 (R110) -/

/-- Records in ascending ordinal, equal ordinals in list order. -/
def insertOrdinal (r : Record) : List Record → List Record
  | [] => [r]
  | q :: qs => if r.ordinal ≤ q.ordinal then r :: q :: qs else q :: insertOrdinal r qs

def streamOrder (rs : List Record) : List Record := rs.foldr insertOrdinal []

/-- What one record becomes, and whether its stream is then broken and held. In a stream of ordered and unordered records each goes by
its own flag, and every one sets the marks (log 69). -/
def decideOne (s : State) (z : PassZero) (c : Scratch) (r : Record) (broken held : Bool) : Disp × Bool × Bool :=
  let broken := broken ||
    (!r.unordered && z.breaks.any fun b => b.1 == streamOf s.pms r && decide (b.2 < r.ordinal))
  if c.forced.contains r.sheet then (.remove, true, held)
  else if (r.unordered || !broken) && canRetain s r then (.retain, broken, true)
  else if (r.unordered || (!broken && !held)) && canDeliver s z c r then (.deliver, broken, held)
  else if canPurge s c r then (.purge, true, held)
  else (.remove, true, held)

/-- Every record in stream order, with the streams broken and held so far. -/
def passThree (s : State) (z : PassZero) (c : Scratch) : List Record → List (Nat × Nat) → List (Nat × Nat) → List (Nat × Disp)
  | [], _, _ => []
  | r :: rs, broken, held =>
    let t := streamOf s.pms r
    let (d, b, h) := decideOne s z c r (broken.contains t) (held.contains t)
    (r.sheet, d) :: passThree s z c rs (if b then t :: broken else broken) (if h then t :: held else held)

/-! ## Pass 4 (R111) -/

/-- The run-out path of a record with scratch disposition DELIVER or PURGE (R105). -/
def runOutPath (m : MapStore) (r : Record) (d : Disp) : List Nat :=
  match d, joinOf m r with
  | .purge, some j => (joinedPath m r j).drop (r.trailStep - 1)
  | _, _ => (pathOf m r).drop (r.trailStep - 1)

/-- A zone carries a segment that a RETAIN body touches. -/
def zoneRetains (s : State) (c : Scratch) (z : Nat) : Bool :=
  s.flt.list.any fun q => c.of q.sheet == some .retain &&
    (bodySteps s.pms q).any fun i => (s.pms.seg? i).any fun g => g.zone == z

def runsOut (d : Disp) : Bool := d == .deliver || d == .purge
def staysPut (d : Disp) : Bool := d == .retain || d == .remove

/-- A record whose run-out would disturb a sheet that must not move. -/
def blocked (s : State) (c : Scratch) (r : Record) : Bool :=
  (c.of r.sheet).any fun d => runsOut d && (runOutPath s.pms r d).any fun i =>
    touchedBy s c staysPut r i || (s.pms.seg? i).any fun g => zoneRetains s c g.zone

/-- Passes 2 to 4, repeated until nothing is blocked (at most 24 repeats follow). -/
def planLoop (s : State) (z : PassZero) : Nat → Scratch → Scratch
  | 0, c => c
  | n + 1, c =>
    let c' : Scratch := { c with disps := passThree s z c (streamOrder s.flt.list) [] [] }
    let hit := (s.flt.list.filter (blocked s c')).map (·.sheet)
    if hit.isEmpty then c'
    else planLoop s z n
      ⟨c'.disps.map (fun p => if hit.contains p.1 then (p.1, .remove) else p), c'.forced ++ hit⟩

def planned (s : State) (z : PassZero) : Scratch := planLoop s z 25 (passOne s)

/-! ## Writing the plan (R112, R113) -/

def countDisp (d : Disp) (s : State) : Nat := s.flt.list.countP fun r => r.disp == some d

/-- A record with its settled disposition, and its purge join. -/
def writeDisp (m : MapStore) (c : Scratch) (r : Record) : Record :=
  { r with
    disp := c.of r.sheet
    purgeJoin := if c.of r.sheet = some .purge then joinOf m r else r.purgeJoin }

/-- The run-out zones (R113). -/
def runOutZoneSet (s : State) : List Nat :=
  (List.range 8).filter fun z => s.flt.list.any fun r =>
    r.disp.any runsOut && ((pathOf s.pms r).drop (r.trailStep - 1)).any fun i => (s.pms.seg? i).any fun g => g.zone == z

/-- Entry to RUNOUT (R113). -/
def enterRunout (s : State) : State := rederiveAll (runOutZones (runOutZoneSet s) (setPath .runout s))

/-- The state that the plan leads to. -/
def planLeadsTo (s : State) : PathState :=
  if runOutGoing s then .runout else if recoveryClears s then .clearing else .resumable

/-- The plan written, its PLAN notice, and the state entered (R112). -/
def writePlan (z : PassZero) (s : State) : State :=
  let s := setList (s.flt.list.map (writeDisp s.pms (planned s z))) s
  let s := post (.plan (countDisp .deliver s) (countDisp .purge s) (countDisp .retain s) (countDisp .remove s) z.voided
    z.discarded.length (planLeadsTo s)) s
  if runOutGoing s then enterRunout s else decideRecovery s

def makePlan (s : State) : State :=
  let (z, s) := passZero s
  writePlan z s

/-! ## The write-back (R119) -/

def heldFor (s : State) (r : Record) : Disp := ((s.rcv.held.find? fun p => p.1 == r.sheet).map (·.2)).getD .remove

/-- Steps 1 and 2: held as REMOVE, or touching a jam area. -/
def fallsOut (s : State) (r : Record) : Bool :=
  heldFor s r == .remove || (bodyAreas s.pms r).any s.rcv.jam.areas.contains

/-- The disposition written back; step 3 is the stream rule. In a stream that holds ordered and unordered records, an earlier record
of either kind that gets REMOVE takes the ordered ones with it (log 69). -/
def writtenBack (s : State) (r : Record) : Disp :=
  if fallsOut s r then .remove
  else if !r.unordered && s.flt.list.any fun q =>
      fallsOut s q && streamOf s.pms q == streamOf s.pms r && decide (q.ordinal < r.ordinal) then .remove
  else .retain

def writeBack (s : State) : State :=
  decideRecovery (setHeld [] (setList (s.flt.list.map fun r => { r with disp := some (writtenBack s r) }) s))

/-! ## STANDSTILL (R104) -/

def takeStandstill (s : State) : State :=
  if s.rcv.jam.second.isSome then writeBack s else makePlan s

/-- STANDSTILL: RCV reads the standstill indication in HALTING, and takes standstill when it is true (R38, R104). In every other
path state, and while the indication is false, nothing happens. -/
def execStandstill (s : State) : Host.Outcome State Fault Refusal :=
  .next (takeEvent (fun s =>
    if s.rcv.path = .halting ∧ standing s then takeStandstill s else s) s)

end Sys2Proof.Machine
end

