-- ==== Sys2Proof/Machine/Resume.lean ====
section
/-! DEFINITION. Clearance, reprint queue and resume: RESUME, ABANDON, TAKE, AREA_CHECK, IMMEDIATE_CHECK, QUERY AREAS,
QUERY REPRINT and QUERY JAM (R96, R126 to R144). -/

namespace Sys2Proof.Machine

/-! ## RESUME (R141 to R143) -/

/-- The SENSOR nodes that read COVERED with no RETAIN body over them, in node order. -/
def unexplainedNodes (s : State) : List Nat := ((sensorNodes s.pms).map (·.1)).filter (unexplained s)

/-- RESIDUAL at RESUME: the record, the list, the JAM notice and the reply (R141). -/
def resumeResidual (tag : Byte) (n : Nat) (s : State) : State :=
  let j : JamRecord := ⟨some (residualAt s n), none, nodeAreas s.pms n⟩
  let s := post (.jam false j) (enterClearing (setJam j s))
  done kRESUME tag (u8 s.rcv.path.code ++ u8 Cause.residual.code) s

/-- The remaining length of a held lead's step, in 0.1 mm (R142). -/
def lengthLeft (g : SegEntry) (r : Record) : Nat := ((((g.len * 100 : Nat) : Int) - r.lead.offset) / 100).toNat

/-- The lead window of a re-armed record (R142): measured from now over the remaining length. On a FEED step, which is judged by
time alone (R9, R85), it is a pick window (log 24). -/
def rearmedLead (s : State) (r : Record) : Option LeadExp :=
  match leadSeg s.pms r with
  | some g =>
    let left := lengthLeft g r
    let e : LeadExp :=
      { kind := if g.kind = .feed then .pick else .travel, node := g.dst, zone := g.zone, ref := travelOf s g.zone, lo := boundLo left g.early
        hi := boundHi left g.late r.slip, margin := g.margin, budget := none, elapsed := 0, times := none }
    if g.kind = .reverse then none
    else if working s g.dst then some { e with budget := formBudget e.hi 0 g.margin (speedOf s g.zone) }
    else if nodeKind s.pms g.dst = some .remote then
      some { e with kind := .remote, times := formTimes { e with kind := .remote } 0 (speedOf s g.zone) }
    else none
  | none => none

/-- An arrivals stamp after the hold: the distance its zone had run since it is kept (R142). -/
def rebased (s : State) (a : Arrival) : Arrival :=
  { a with stamp := travelOf s a.zone - (((s.rcv.holdTravel[a.zone]?).getD 0) - a.stamp) }

/-- References set so that offset and depth go on from their held values (R59). -/
def rereferenced (s : State) (r : Record) : Record :=
  let now := travelOf s (((leadSeg s.pms r).map (·.zone)).getD 0)
  { r with
    lead := { r.lead with ref := now - BitVec.ofInt 32 r.lead.offset }
    depth := r.depth.map fun d => { d with ref := now - BitVec.ofInt 32 d.value }
    arrivals := r.arrivals.map (rebased s) }

/-- One record re-armed, its disposition and purge join gone (R142, R143). -/
def rearmed (s : State) (r : Record) : Record :=
  let q := rereferenced s r
  { q with leadExp := rearmedLead s q, trailExp := openTrail s q, disp := none, purgeJoin := none }

/-- RESUME with nothing unexplained: the windows, the state, the gates, the reply, and then any STAY (R142, R143). Every record is
re-armed, one that is REMOVE too (log 71). -/
def resumeRuns (tag : Byte) (s : State) : State :=
  let s := setList (s.flt.list.map (rearmed s)) s
  let s := if s.flt.list.isEmpty then enterArmed s else rederiveAll (setPath .running s)
  let n := s.flt.list.length
  let s := done kRESUME tag
    (u8 (if n = 0 then PathState.armed.code else PathState.running.code) ++ u8 n) s
  (sheetsOf s).foldl (fun s sheet => withRec sheet judgeStay s) s

def performResume (tag : Byte) (s : State) : State :=
  if s.rcv.path = .resumable then
    let s := setRpq { s.rpq with abandoned := [] } (setJam .empty s)
    match unexplainedNodes s with
    | n :: _ => resumeResidual tag n s
    | [] => resumeRuns tag s
  else refuse kRESUME tag .state s

def execResume (tag : Byte) (s : State) : Host.Outcome State Fault Refusal :=
  .next (takeRequest kRESUME tag (performResume tag) s)

/-! ## ABANDON (R144, R151) -/

def abandonAllowed (s : State) : Bool := s.rcv.path == .clearing || s.rcv.path == .resumable

/-- Steps 1 and 2: the job joins the abandoned set and its entries leave the queue. -/
def dropEntries (job : Nat) (q : Rpq) : Rpq :=
  { q with
    abandoned := if q.abandoned.contains job then q.abandoned else q.abandoned ++ [job]
    queue := q.queue.filter fun e => entryJob e != job
    touched := q.touched || q.queue.any fun e => entryJob e == job }

/-- Step 4 on one set: a cancel when something of it was handed off, and the entry goes. -/
def abandonSet (s : State) (e : SetEntry) : State :=
  dropSet e.slot (if 0 < e.handedOff then cancelSet e s else s)

/-- The RETAIN records of a job. -/
def keptOf (job : Nat) (r : Record) : Bool := retained r && r.job == job

def performAbandon (tag : Byte) (job : Nat) (s : State) : State :=
  if abandonAllowed s then
    let removed := s.rpq.queue.countP fun e => entryJob e == job
    let given := s.flt.list.countP (keptOf job)
    let sets := s.xlm.sets.filter fun e => e.job == job
    let s := giveRemove (keptOf job) (setRpq (dropEntries job s.rpq) s)
    let s := sets.foldl abandonSet s
    let s := if s.rcv.path = .resumable ∧ 0 < given then setPath .clearing s else s
    done kABANDON tag
      (u8 removed ++ u8 given ++ u8 (sets.countP fun e => decide (0 < e.handedOff)) ++ u8 s.rcv.path.code) s
  else refuse kABANDON tag .state s

def execAbandon (tag : Byte) (job : Nat) (s : State) : Host.Outcome State Fault Refusal :=
  .next (takeRequest kABANDON tag (performAbandon tag job) s)

/-! ## TAKE (R138) and QUERY REPRINT (R139) -/

/-- The queue after a TAKE of `n`. -/
def taken (n : Nat) (q : Rpq) : Rpq :=
  { q with queue := q.queue.drop n, incomplete := q.incomplete && !(q.queue.drop n).isEmpty }

def performTake (tag : Byte) (n : Nat) (s : State) : State :=
  if 1 ≤ n ∧ n ≤ 6 then
    let q := taken n s.rpq
    done kTAKE tag (list8 ((s.rpq.queue.take n).map encodeEntry) ++ u8 q.queue.length ++ flag8 q.incomplete) (setRpq q s)
  else refuse kTAKE tag .field s

def execTake (tag : Byte) (n : Nat) (s : State) : Host.Outcome State Fault Refusal :=
  .next (takeRequest kTAKE tag (performTake tag n) s)

/-- The fields of QUERY REPRINT; the abandoned set, in the order in which its jobs were abandoned (log 58), is cut to what fits
beside the entries (log 33). -/
def reprintFields (q : Rpq) : List Byte :=
  let entries := list8 ((q.queue.take 6).map encodeEntry)
  u8 q.queue.length ++ flag8 q.incomplete ++ list8 (fitting (listRoom (2 + entries.length)) (q.abandoned.map u8)) ++ entries

def performQueryReprint (tag : Byte) (s : State) : State := done kQUERY tag (reprintFields s.rpq) s

def execQueryReprint (tag : Byte) (s : State) : Host.Outcome State Fault Refusal :=
  .next (takeRequest kQUERY tag (performQueryReprint tag) s)

/-! ## QUERY AREAS (R132) and QUERY JAM (R96) -/

def coverByte (c : Option Bool) : List Byte := opt8 (c.map fun o => if o then 0 else 1)

def areaFields (s : State) (a : Nat) (e : AreaEntry) : List Byte :=
  let q := areaAt s a
  encodeSource e.source ++ coverByte (coverOf s a) ++ u8 e.rank ++ u8 q.status.code ++
    opt16 (if q.status = .checking then some q.timer else none)

def areasFields (s : State) : List Byte :=
  list8 ((definedEntries s.pms.areas).map fun (a, e) => areaFields s a e) ++ list8 (s.clm.list.map u8)

def performQueryAreas (tag : Byte) (s : State) : State := done kQUERY tag (areasFields s) s

def execQueryAreas (tag : Byte) (s : State) : Host.Outcome State Fault Refusal :=
  .next (takeRequest kQUERY tag (performQueryAreas tag) s)

/-- An empty mark, and the record when it is not empty. -/
def jamFields (j : JamRecord) : List Byte := if j.first.isNone then [1] else [0] ++ encodeJam j

def performQueryJam (tag : Byte) (s : State) : State := done kQUERY tag (jamFields s.rcv.jam) s

def execQueryJam (tag : Byte) (s : State) : Host.Outcome State Fault Refusal :=
  .next (takeRequest kQUERY tag (performQueryJam tag) s)

/-! ## AREA_CHECK (R126) and IMMEDIATE_CHECK (R128) -/

/-- AREA_CHECK: the check timer of a CHECKING area reaches 300 ms. -/
def execAreaCheck (a : Nat) (s : State) : Host.Outcome State Fault Refusal :=
  .next (takeEvent (fun s =>
    if s.rcv.path = .clearing ∧ s.clm.list.contains a ∧ (areaAt s a).status = .checking ∧ Config.checkTime ≤ (areaAt s a).timer then
      concludeCheck a s
    else s) s)

/-- IMMEDIATE_CHECK: a check that is due is taken; it reads the area when that is still listed and NEEDED. -/
def execImmediateCheck (a : Nat) (s : State) : Host.Outcome State Fault Refusal :=
  .next (takeEvent (fun s =>
    if s.clm.due.contains a then
      let s := setDue (s.clm.due.filter fun b => b ≠ a) s
      if s.rcv.path = .clearing ∧ s.clm.list.contains a ∧ (areaAt s a).status = .needed then concludeCheck a s else s
    else s) s)

end Sys2Proof.Machine
end

