-- ==== Sys2Proof/Machine/Windows.lean ====
section
/-! DEFINITION. The windows that run out: LATE_TIME, STAY, REPICK, MISFEED and REMOTE_LATE (R79, R82, R85, R90). Each command is the
millisecond at which the time has run out: it needs the window's time at its limit (R87), so that a window opened or formed
afresh before the command is taken does not fail. -/

namespace Sys2Proof.Machine

/-- The window's zone is commanded to move, so that its time runs (R76, R88). -/
def runs (s : State) (z : Nat) : Bool := speedOf s z != 0

/-- Poll allowance: 3k + 2 ms with k stations present (R90). -/
def pollAllowance (s : State) : Nat := 3 * (s.xlm.stations.countP fun q => q.link != .absent) + 2

/-- A formed budget that stands at 0 while the window's zone is commanded to move (R76). -/
def spent (s : State) (zone : Nat) (budget : Option Nat) : Bool := budget == some 0 && runs s zone

/-- A window of the record fails by time: its budget is spent and the record judged (R79, R80), or it came to 0 in the millisecond of
a second failure, which has stopped the zone (R87, log 74). -/
def failsByTime (s : State) (r : Record) (zone : Nat) (budget : Option Nat) : Bool :=
  (spent s zone budget && judged s r) || (budget == some 0 && inMoment s r)

/-- The record's open lead window of a kind that fails by time (R79, R85). -/
def spentLead (s : State) (k : LeadKind) (r : Record) : Option LeadExp :=
  r.leadExp.filter fun e => e.kind == k && failsByTime s r e.zone e.budget

/-! ## LATE_TIME (R79) -/

def lateTime (r : Record) (e : LeadExp) (s : State) : State :=
  raiseSheet .lateTime r.sheet e.node e.zone (some (leadRun s e)) (some (e.hi : Nat)) s

def execLateTime (sheet : Nat) (s : State) : Host.Outcome State Fault Refusal :=
  .next (takeEvent (withRec sheet fun r s =>
    match spentLead s .travel r with
    | some e => lateTime r e s
    | none => s) s)

/-! ## STAY (R82) -/

/-- The record's open stay window that fails by time (R82). -/
def spentTrail (s : State) (r : Record) : Option TrailExp := r.trailExp.filter fun e => failsByTime s r e.zone e.budget

def stayTime (r : Record) (e : TrailExp) (s : State) : State :=
  raiseSheet .stay r.sheet e.node e.zone (some (trailRun s e)) (some (e.hi : Nat)) s

def execStay (sheet : Nat) (s : State) : Host.Outcome State Fault Refusal :=
  .next (takeEvent (withRec sheet fun r s =>
    match spentTrail s r with
    | some e => stayTime r e s
    | none => s) s)

/-! ## REPICK and MISFEED (R85) -/

/-- The first expiry: the count, the notice, and the budget afresh from hi. -/
def firstExpiry (r : Record) (e : LeadExp) (s : State) : State :=
  post (.repick r.sheet r.job r.ordinal)
    (putRec { r with
      repick := 1
      leadExp := some { e with budget := formBudget e.hi 0 e.margin (speedOf s e.zone) } } s)

def execRepick (sheet : Nat) (s : State) : Host.Outcome State Fault Refusal :=
  .next (takeEvent (withRec sheet fun r s =>
    match spentLead s .pick r with
    | some e => if r.repick = 0 ∧ judged s r then firstExpiry r e s else s
    | none => s) s)

/-- The second expiry: MISFEED, with the repick count as its measured value (R92). -/
def secondExpiry (r : Record) (e : LeadExp) (s : State) : State :=
  raiseSheet .misfeed r.sheet e.node e.zone (some (r.repick : Nat)) none s

def execMisfeed (sheet : Nat) (s : State) : Host.Outcome State Fault Refusal :=
  .next (takeEvent (withRec sheet fun r s =>
    match spentLead s .pick r with
    | some e => if r.repick = 1 then secondExpiry r e s else s
    | none => s) s)

/-! ## REMOTE_LATE (R90) -/

/-- The late time of an open remote window that the elapsed count has passed, with the poll allowance of this moment, whatever
its zone's speed: the record's window and that bound (R90). The record is judged, or was in this millisecond (R87, log 74). -/
def overdue (s : State) (r : Record) : Option (LeadExp × Nat) :=
  r.leadExp.bind fun e =>
    if e.kind = .remote ∧ (judged s r || inMoment s r) then
      e.times.bind fun t => if t.2 + pollAllowance s < e.elapsed then some (e, t.2 + pollAllowance s) else none
    else none

/-- LATE of a remote window: the elapsed count and the bound it has passed. -/
def remoteLate (r : Record) (e : LeadExp) (bound : Nat) (s : State) : State :=
  raiseSheet .late r.sheet e.node e.zone (some (e.elapsed : Nat)) (some (bound : Nat)) s

def execRemoteLate (sheet : Nat) (s : State) : Host.Outcome State Fault Refusal :=
  .next (takeEvent (withRec sheet fun r s =>
    match overdue s r with
    | some (e, bound) => remoteLate r e bound s
    | none => s) s)

end Sys2Proof.Machine
end

