-- ==== Sys2Proof/Machine/Expansion.lean ====
section
/-! DEFINITION. The expansion link: POLL_SLOT, STATION_REPLY, BAD_REPLY, POLL_MISS, STATION_PRESENT, STATION_ABSENT,
QUERY STATIONS and QUERY SETS (R149, R152 to R163). -/

namespace Sys2Proof.Machine

/-! ## The end of an exchange without a good reply (R156, R159) -/

/-- A bad reply or a miss: an ONLINE station's miss count rises, and at 3 it becomes LOST. -/
def countMiss (k : Nat) (s : State) : State :=
  let q := stationAt s k
  if q.link = .online then
    if 3 ≤ q.miss + 1 then loseStation false k s else setStation k { q with miss := q.miss + 1 } s
  else s

/-- The exchange under way ends without a good reply. -/
def endExchange (s : State) : State :=
  match s.xlm.exchange with
  | some x => countMiss x.station (setExchange none s)
  | none => s

def execBadReply (s : State) : Host.Outcome State Fault Refusal := .next (takeEvent endExchange s)

def execPollMiss (s : State) : Host.Outcome State Fault Refusal := .next (takeEvent endExchange s)

/-! ## POLL_SLOT (R154, R155) -/

/-- The cyclic order after the station polled last. -/
def pollOrder : Nat → List Nat
  | 1 => [2, 3, 1]
  | 2 => [3, 1, 2]
  | _ => [1, 2, 3]

def pollable (q : StationState) : Bool := q.link == .online || (q.link == .lost && decide (100 ≤ q.retry))

def chosen (s : State) : Option Nat := (pollOrder s.xlm.lastPolled).find? fun k => pollable (stationAt s k)

/-- Sends a station's POLL: up to two hand-offs and two cancels from the heads of its queues, which keep them (R155). -/
def sendPoll (k : Nat) (s : State) : State :=
  let q := stationAt s k
  let hs := q.handOffs.take 2
  let cs := q.cancels.take 2
  let s := if q.link = .lost then setStation k { q with retry := 0 } s else s
  let f := pollFrame hs cs
  { s with xlm := { s.xlm with lastPolled := k, pollChars := f.length + 1, exchange := some ⟨k, hs, cs, f⟩ } }

/-- POLL_SLOT: a reply not complete when the slot starts is a bad one (R156); then the station is chosen. -/
def startSlot (s : State) : State :=
  let s := endExchange s
  let s := { s with xlm := { s.xlm with slot := 0, pollChars := 0 } }
  match chosen s with
  | some k => sendPoll k s
  | none => s

def execPollSlot (s : State) : Host.Outcome State Fault Refusal := .next (takeEvent startSlot s)

/-! ## STATION_REPLY (R149, R156 to R158, R160) -/

/-- A good reply returns the miss count to 0; a LOST station is ONLINE again, with its notice (R156, R160) and
its retry timer at 0 (log 59). -/
def stationAnswers (k : Nat) (s : State) : State :=
  let q := stationAt s k
  if q.link = .lost then
    stationNotice k .returned (setStation k { q with link := .online, miss := 0, retry := 0 } s)
  else setStation k { q with miss := 0 } s

/-- Acknowledgement: what the POLL carried leaves the queues (R157). -/
def acknowledge (x : Exchange) (s : State) : State :=
  let q := stationAt s x.station
  setStation x.station { q with
    handOffs := x.handOffs.foldl List.erase q.handOffs
    cancels := x.cancels.foldl List.erase q.cancels } s

/-- The REMOTE node with a station and a station-local number. -/
def remoteNode (m : MapStore) (k localNo : Nat) : Option Nat :=
  ((definedEntries m.nodes).find? fun p => p.2.kind == .remote && p.2.station == some k && p.2.localNo == some localNo).map (·.1)

/-- One edge report, its age raised by the wait and held at 255 (R157). It is an FLT event of its own. -/
def takeReport (k lag : Nat) (s : State) (r : EdgeReport) : State :=
  let s := closeEvent s
  match remoteNode s.pms k r.node with
  | some n =>
    if r.trail then takeRemoteTrail k n r.sheet s else takeRemoteLead k n r.sheet (min (r.age + lag) 255) s
  | none => stationNotice k (.errorSheet r.sheet) s

/-- The set a station's compile state is matched to (R149), its destination as the map now has it (log 76). -/
def compileMatch (s : State) (k number : Nat) : Option SetEntry :=
  s.xlm.sets.find? fun e => e.number == number && stationOfNode s.pms e.dest == some k

/-- A compile state (R149). -/
def takeCompile (k : Nat) (c : Nat × Nat × Bool) (s : State) : State :=
  match compileMatch s k c.1 with
  | some e =>
    let s := putSet { e with compiled := min c.2.1 e.handedOff } s
    if c.2.2 then
      if e.closed && e.lastSeen then dropSet e.slot s else stationNotice k (.errorSet c.1) s
    else s
  | none => stationNotice k (.errorSet c.1) s

/-- The station jam flag (R158): held, noticed on a change, and a jam STATION for a station in use. -/
def takeJamFlag (k : Nat) (flag : Bool) (area : Nat) (s : State) : State :=
  let q := stationAt s k
  let s := setStation k { q with jamFlag := flag, jamArea := if flag then some area else q.jamArea } s
  let s := if q.jamFlag = flag then s else stationNotice k (.jam flag (if flag then some area else none)) s
  if flag ∧ positioning s ∧ stationInUse s k then
    raiseJam (causeNow s .station none none none (some (k : Nat)) (some (area : Nat))) (stationAreas s.pms k area) s
  else s

/-- One reported station cover (R157, R121). -/
def takeCover (k : Nat) (s : State) (p : Nat × Option Bool) : State :=
  match p.2 with
  | some o =>
    let q := stationAt s k
    if q.covers[p.1]? = some (!o) then
      coverChanged (.station k p.1) o (setStation k { q with covers := q.covers.set p.1 o } s)
    else s
  | none => s

/-- A good reply, its parts in the order of R157. -/
def takeReply (x : Exchange) (r : StationReport) (lag : Nat) (s : State) : State :=
  let k := x.station
  let s := acknowledge x (stationAnswers k (setExchange none s))
  let s := r.edges.foldl (takeReport k lag) s
  let s := r.finals.foldl (takeFinal k) s
  let s := match r.compile with
    | some c => takeCompile k c s
    | none => s
  let s := takeJamFlag k r.jamFlag r.jamArea s
  ((List.range 4).zip r.covers).foldl (takeCover k) s

/-- A frame received within 2 ms of the POLL and complete before the next slot: good, or a bad reply (R156). -/
def takeFrame (f : LinkFrame) (lag : Nat) (s : State) : State :=
  match s.xlm.exchange with
  | some x =>
    if f.address.toNat = x.station then
      match readLinkFrame f with
      | some r => takeReply x r lag s
      | none => endExchange s
    else endExchange s
  | none => s

def execStationReply (f : LinkFrame) (lag : Nat) (s : State) : Host.Outcome State Fault Refusal :=
  .next (takeEvent (takeFrame f lag) s)

/-! ## Presence (R153, R161) -/

def setPresencePin (k : Nat) (v : Bool) (s : State) : State :=
  { s with pins := { s.pins with presence := s.pins.presence.set (k - 1) v } }

def isStation (k : Nat) : Bool := decide (1 ≤ k) && decide (k ≤ 3)

/-- Presence becomes PRESENT: the station is ONLINE (R153). -/
def becomePresent (k : Nat) (s : State) : State :=
  stationNotice k .present
    (setStation k { stationAt s k with present := true, presenceCount := 0, link := .online, miss := 0 } s)

def execStationPresent (k : Nat) (s : State) : Host.Outcome State Fault Refusal :=
  .next (takeEvent (fun s => if isStation k && !(stationAt s k).present then becomePresent k s else s)
    (if isStation k then setPresencePin k true s else s))

/-- Presence becomes ABSENT (R161), the retry timer at 0 (log 59). -/
def becomeAbsent (k : Nat) (s : State) : State :=
  let s := setStation k { stationAt s k with
    present := false, presenceCount := 0, link := .absent, miss := 0, retry := 0, handOffs := [] } s
  let s := if s.xlm.exchange.any (fun x => x.station == k) then setExchange none s else s
  linkLost k (dueForStation k (stationNotice k .absent s))

def execStationAbsent (k : Nat) (s : State) : Host.Outcome State Fault Refusal :=
  .next (takeEvent (fun s => if isStation k && (stationAt s k).present then becomeAbsent k s else s)
    (if isStation k then setPresencePin k false s else s))

/-! ## QUERY STATIONS and QUERY SETS (R163) -/

def stationFields (q : StationState) : List Byte :=
  flag8 (!q.present) ++ u8 q.link.code ++ u8 q.miss ++ u8 q.handOffs.length ++ u8 q.cancels.length ++
    list8 (q.handOffs.map fun h => u16 h.sheet) ++ flag8 q.jamFlag ++ opt8 q.jamArea ++
    q.covers.flatMap (fun o => flag8 (!o)) ++ opt8 (if q.link = .lost then some q.retry else none)

def performQueryStations (tag : Byte) (s : State) : State :=
  done kQUERY tag (s.xlm.stations.flatMap stationFields) s

def execQueryStations (tag : Byte) (s : State) : Host.Outcome State Fault Refusal :=
  .next (takeRequest kQUERY tag (performQueryStations tag) s)

def setFields (e : SetEntry) : List Byte :=
  u8 e.job ++ u16 e.number ++ u8 e.dest ++ flag8 e.staple ++ u16 e.firstOrd ++ u16 e.lastAdmitted ++ opt16 e.lastDelivered ++
    u16 e.admitted ++ u16 e.handedOff ++ u16 e.compiled ++ flag8 e.lastSeen ++ flag8 e.closed ++ u8 e.slot

def performQuerySets (tag : Byte) (page : Nat) (s : State) : State :=
  if page ≤ 1 then
    done kQUERY tag (list8 (((s.xlm.sets.drop (4 * page)).take 4).map setFields) ++ u8 s.xlm.sets.length) s
  else refuse kQUERY tag .field s

def execQuerySets (tag : Byte) (page : Nat) (s : State) : Host.Outcome State Fault Refusal :=
  .next (takeRequest kQUERY tag (performQuerySets tag page) s)

end Sys2Proof.Machine
end

