-- ==== Sys2Proof/Machine/Supply.lean ====
section
/-! DEFINITION. Supply, snapshot store and resets: SUPPLY_WARN, SUPPLY_NORMAL, ROW_WRITE_END, SNAP_ADOPT, SNAP_DROP,
QUERY SNAPSHOT, BROWN_OUT, EXTERNAL_RESET and START (chapter 9). -/

namespace Sys2Proof.Machine

/-! ## The supply monitor (R164, R165) -/

def setSupplyPin (low : Bool) (s : State) : State := { s with pins := { s.pins with supplyLow := low } }

/-- The supply state becomes WARN: POWER for RCV, the snapshot, and the SUPPLY notice (R164), whose flag is set also
when the snapshot waits behind a single-row write (R169, log 60). -/
def becomeWarn (s : State) : State :=
  let s := setSpm { s.spm with warn := true, warnTimer := 0, recTimer := 0 } s
  let s := raiseJam (causeNow s .power none none none none none) [] s
  post (.supply true (startsSnapshot s)) (takeSnapshot .power s)

def execSupplyWarn (s : State) : Host.Outcome State Fault Refusal :=
  .next (takeEvent (fun s => if s.spm.warn then s else becomeWarn s) (setSupplyPin true s))

/-- The supply state becomes NORMAL (R165). -/
def becomeNormal (s : State) : State :=
  post (.supply false false) (setSpm { s.spm with warn := false, warnTimer := 0, recTimer := 0 } s)

def execSupplyNormal (s : State) : Host.Outcome State Fault Refusal :=
  .next (takeEvent (fun s => if s.spm.warn then becomeNormal s else s) (setSupplyPin false s))

/-! ## Resets (R166, R167, R170, R173) -/

/-- The content of a row whose write is cut off: undefined, so free (R167, log 8). -/
def cutRow (k : Nat) : Row := ⟨(List.range 16).map (Config.cutRowByte k), false⟩

/-- A reset cuts off the row write in progress (R167). -/
def cutWrites (p : Spm) : Spm :=
  match p.ops with
  | ⟨_, (i, _) :: _⟩ :: _ => { p with rows := p.rows.set i (cutRow p.freeIx), freeIx := p.freeIx + 1 }
  | _ => p

/-- Every item of R173's table returns to its value after reset. The snapshot area is untouched, the pins and the encoder inputs
are where they are, and the commands that wait go on waiting. -/
def resetPart (k : ResetKind) (s : State) : State :=
  { State.reset with
    zdu := { Zdu.reset with zones := s.zdu.zones.map fun q => ZoneState.reset q.phase }
    spm := { Spm.reset with rows := s.spm.rows, freeIx := s.spm.freeIx }
    sys := { Sys.reset with kind := k, cause := s.sys.cause }
    pins := s.pins
    pending := s.pending }

/-- A reset that takes effect whatever the part is doing (R166). -/
def hardReset (k : ResetKind) (s : State) : State := resetPart k (setSpm (cutWrites s.spm) s)

def execBrownOut (s : State) : Host.Outcome State Fault Refusal := .next (hardReset .brownOut s)

def execExternalReset (s : State) : Host.Outcome State Fault Refusal := .next (hardReset .external s)

def kindOfTrigger : Trigger → ResetKind
  | .power | .resetRequest => .request
  | .linkBreak => .linkBreak

/-- A waiting reset takes effect once no row write is under way or to come (R170). -/
def resetIfIdle (s : State) : State :=
  match s.sys.resetWait with
  | some t => if s.spm.ops.isEmpty then resetPart (kindOfTrigger t) s else s
  | none => s

/-- A reset becomes due: the trigger is judged, and the reset takes effect at once or waits; a second one changes nothing
(R170, R187, R188). -/
def resetDue (t : Trigger) (s : State) : State :=
  if s.sys.resetWait.isSome then s
  else
    let s := takeSnapshot t s
    resetIfIdle { s with sys := { s.sys with resetWait := some t }, clk := { s.clk with deaf := true } }

/-! ## ROW_WRITE_END (R167, R169, R170, R174, R175) -/

/-- The row write in progress has run to its end: the row is whole, and COMPLETE in row 0 sets the marker state. -/
def endWrite (i : Nat) (bs : List Byte) (p : Spm) : Spm :=
  { p with
    rows := p.rows.set i ⟨bs, true⟩
    marker := if i = 0 ∧ bs = completeRow then true else p.marker
    elapsed := p.elapsed - 12 }

/-- SNAP_DROP acts: the pending mark goes, and a COMPLETE marker is written EMPTY (R175). -/
def dropNow (tag : Byte) (s : State) : State :=
  let s := setSpm { s.spm with pendingMark := false, dropWait := none } s
  if s.spm.marker then
    replyLater kSNAP_DROP tag (setSpm (addOp ⟨.drop tag, [(0, emptyRow)]⟩ s.spm) s)
  else done kSNAP_DROP tag (flag8 false) s

/-- What the end of an operation brings: a notice or a reply. -/
def operationEnds (k : OpKind) (s : State) : State :=
  match k with
  | .snapshot .power n m x => post (.snapshot .power n m x) s
  | .snapshot _ _ _ _ => s
  | .invalidate => s
  | .adopt tag sets sheets notSaved => done kSNAP_ADOPT tag (u8 sets ++ u8 sheets ++ u8 notSaved) s
  | .drop tag => done kSNAP_DROP tag (flag8 true) s

/-- A SNAP_DROP that waited for a snapshot acts at its end (R175). -/
def releaseDrop (s : State) : State :=
  match s.spm.dropWait with
  | some tag => if writingSnapshot s.spm then s else dropNow tag s
  | none => s

/-- An operation has ended: a waiting reset first, else a waiting SNAP_DROP. -/
def afterOperation (s : State) : State :=
  if s.sys.resetWait.isSome then resetIfIdle s else releaseDrop s

def rowWriteEnd (s : State) : State :=
  match s.spm.ops with
  | ⟨k, (i, bs) :: ws⟩ :: rest =>
    let p := endWrite i bs s.spm
    match ws with
    | _ :: _ => setSpm (beginWrite { p with ops := ⟨k, ws⟩ :: rest }) s
    | [] => afterOperation (operationEnds k (setSpm (beginWrite { p with ops := rest }) s))
  | _ => s

def execRowWriteEnd (s : State) : Host.Outcome State Fault Refusal := .next (takeEvent rowWriteEnd s)

/-! ## START (R172, R173, R177, R31, R32, R188) -/

/-- The rate code of the straps (R177). -/
def rateOf : Bool → Bool → Nat
  | false, false => 0
  | false, true => 1
  | true, false => 2
  | true, true => 0

/-- The reset cause that START reports (R173). -/
def causeOf (k : ResetKind) (coreKept : Bool) : ResetCause :=
  if !coreKept then .powerOn
  else
    match k with
    | .powerOn | .external => .powerOn
    | .brownOut => .brownOut
    | .request => .resetRequest
    | .linkBreak => .linkBreak

def rowAt (p : Spm) (i : Nat) : Row := (p.rows[i]?).getD Row.blank

/-- The marker row reads COMPLETE (R167). -/
def markerComplete (p : Spm) : Bool := (rowAt p 0).whole && (rowAt p 0).bytes == completeRow

/-- The header of a pending snapshot. -/
def pendingHeader (p : Spm) : Option Header := if p.pendingMark then some (readHeader (rowAt p 1).bytes) else none

/-- The part starts: first samples of covers and feedback, straps, marker, and the START notice. -/
def startPart (strap1 strap2 coreKept : Bool) (s : State) : State :=
  let cause := causeOf s.sys.kind coreKept
  let rate := rateOf strap1 strap2
  let s : State :=
    { s with
      sfe := { s.sfe with covers := s.pins.covers, feedback := s.pins.feedback }
      spm := { s.spm with marker := markerComplete s.spm, pendingMark := markerComplete s.spm }
      clk := { s.clk with rate := rate, breakArmed := s.pins.rxHigh }
      sys := { s.sys with live := true, cause := cause } }
  post (.start cause rate (pendingHeader s.spm)) s

def execStart (strap1 strap2 coreKept : Bool) (s : State) : Host.Outcome State Fault Refusal :=
  .next (if s.sys.live then s else startPart strap1 strap2 coreKept s)

/-! ## SNAP_ADOPT and SNAP_DROP (R174, R175) -/

/-- The SET and SHEET entries of the rows that a header counts (R174). -/
def adoptedSets (p : Spm) (h : Header) : List ReprintEntry :=
  (List.range h.sets).filterMap fun i => readSetRow (rowAt p (26 + i)).bytes

def adoptedSheets (p : Spm) (h : Header) : List ReprintEntry :=
  (List.range h.records).map fun i => readSheetRow (rowAt p (2 + i)).bytes

def adoptSnapshot (tag : Byte) (s : State) : State :=
  let h := readHeader (rowAt s.spm 1).bytes
  let s1 := (adoptedSets s.spm h).foldl (fun s e => offerEntry e s) s
  let s2 := (adoptedSheets s.spm h).foldl (fun s e => offerEntry e s) s1
  let op : RowOp := ⟨.adopt tag (s1.rpq.queue.length - s.rpq.queue.length) (s2.rpq.queue.length - s1.rpq.queue.length)
    h.notSaved, [(0, emptyRow)]⟩
  replyLater kSNAP_ADOPT tag (setSpm (addOp op { s2.spm with pendingMark := false }) s2)

def performSnapAdopt (tag : Byte) (s : State) : State :=
  if s.rcv.path ≠ .config then refuse kSNAP_ADOPT tag .state s
  else if s.spm.pendingMark then adoptSnapshot tag s
  else done kSNAP_ADOPT tag (u8 0 ++ u8 0 ++ u8 0) s

def execSnapAdopt (tag : Byte) (s : State) : Host.Outcome State Fault Refusal :=
  .next (takeRequest kSNAP_ADOPT tag (performSnapAdopt tag) s)

def performSnapDrop (tag : Byte) (s : State) : State :=
  if s.rcv.path ≠ .config then refuse kSNAP_DROP tag .state s
  else if writingSnapshot s.spm then replyLater kSNAP_DROP tag (setSpm { s.spm with dropWait := some tag } s)
  else dropNow tag s

def execSnapDrop (tag : Byte) (s : State) : Host.Outcome State Fault Refusal :=
  .next (takeRequest kSNAP_DROP tag (performSnapDrop tag) s)

/-! ## QUERY SNAPSHOT (R176) -/

/-- The row whose write is in progress. -/
def rowInProgress (p : Spm) : Option Nat :=
  match p.ops with
  | ⟨_, (i, _) :: _⟩ :: _ => some i
  | _ => none

/-- One row: a mark when it is being written, else its 16 bytes. -/
def rowFields (p : Spm) (i : Nat) : List Byte :=
  if rowInProgress p = some i then [1] else [0] ++ (rowAt p i).bytes

def snapshotFields (p : Spm) (first count : Nat) : List Byte :=
  flag8 p.marker ++ flag8 p.pendingMark ++
    list8 (fitting (listRoom 2) ((((List.range 64).drop first).take count).map (rowFields p)))

def performQuerySnapshot (tag : Byte) (first count : Nat) (s : State) : State :=
  if 63 < first ∨ count = 0 then refuse kQUERY tag .field s
  else done kQUERY tag (snapshotFields s.spm first count) s

def execQuerySnapshot (tag : Byte) (first count : Nat) (s : State) : Host.Outcome State Fault Refusal :=
  .next (takeRequest kQUERY tag (performQuerySnapshot tag first count) s)

end Sys2Proof.Machine
end

