-- ==== Sys2Proof/Machine/Link.lean ====
section
/-! DEFINITION. The command link: IDENT, RESET, LINES, the queries that no other file holds, REQUEST_FRAME, FRAME_GAP,
TRANSMIT_END and LINK_BREAK (chapter 10, R33, R72). -/

namespace Sys2Proof.Machine

/-! ## IDENT, RESET, LINES (R181, R186, R187) -/

def performIdent (tag : Byte) (s : State) : State :=
  done kIDENT tag (u16 Config.vendorCode ++ u16 Config.partNumber ++ u8 Config.siliconRevision ++ u8 s.clk.rate ++
    u8 Config.maxPayload) s

def execIdent (tag : Byte) (s : State) : Host.Outcome State Fault Refusal :=
  .next (takeRequest kIDENT tag (performIdent tag) s)

/-- RESET: the reply is formed, and from then on every frame is passed over (R187). -/
def performReset (tag : Byte) (s : State) : State :=
  let s := done kRESET tag [] s
  { s with clk := { s.clk with deaf := true } }

def execReset (tag : Byte) (s : State) : Host.Outcome State Fault Refusal :=
  .next (takeRequest kRESET tag (performReset tag) s)

/-- The enable set that LINES stores: HALT keeps its four forced sources. `none` is FIELD (R186). -/
def storedSet (line enable : Nat) : Option Nat :=
  if 2 < line ∨ 1024 ≤ enable then none
  else if line = 0 then (if enable &&& 0x240 = 0 then some (enable ||| 0x00F) else none)
  else some enable

def setEnable (line v : Nat) (c : Clk) : Clk :=
  match line with
  | 0 => { c with enHalt := v }
  | 1 => { c with enAttn := v }
  | _ => { c with enAux := v }

def performLines (tag : Byte) (line enable : Nat) (s : State) : State :=
  match storedSet line enable with
  | some v =>
    let s := setClk (setEnable line v s.clk) s
    done kLINES tag (u16 v ++ flag8 (asserted s v)) s
  | none => refuse kLINES tag .field s

def execLines (tag : Byte) (line enable : Nat) (s : State) : Host.Outcome State Fault Refusal :=
  .next (takeRequest kLINES tag (performLines tag line enable) s)

/-! ## QUERY STATE and QUERY LINES (R182, R186) -/

def stateFields (s : State) : List Byte :=
  u8 s.rcv.path.code ++ flag8 s.spm.warn ++ u8 s.flt.list.length ++ u8 s.xlm.sets.length ++ u8 s.rpq.queue.length ++
    flag8 s.rpq.incomplete ++ flag8 s.spm.marker ++ flag8 s.spm.pendingMark ++ u8 s.clk.notices.length ++ flag8 s.clk.lost ++
    s.xlm.stations.flatMap (fun q => u8 q.link.code) ++ u16 s.flt.counter ++ u8 s.sys.cause.code

def performQueryState (tag : Byte) (s : State) : State := done kQUERY tag (stateFields s) s

def execQueryState (tag : Byte) (s : State) : Host.Outcome State Fault Refusal :=
  .next (takeRequest kQUERY tag (performQueryState tag) s)

def linesFields (s : State) : List Byte :=
  u16 (sourceMask s) ++ u16 s.clk.enHalt ++ u16 s.clk.enAttn ++ u16 s.clk.enAux ++ flag8 (haltAsserted s) ++
    flag8 (attnAsserted s) ++ flag8 (auxAsserted s) ++ s.sfe.covers.flatMap fun o => flag8 (!o)

def performQueryLines (tag : Byte) (s : State) : State := done kQUERY tag (linesFields s) s

def execQueryLines (tag : Byte) (s : State) : Host.Outcome State Fault Refusal :=
  .next (takeRequest kQUERY tag (performQueryLines tag) s)

/-! ## QUERY SHEET and QUERY FLIGHT (R72) -/

/-- The budget that QUERY SHEET shows: absent while unformed; of a remote window what is left of late and the poll allowance
(R75, R88). -/
def shownBudget (s : State) (e : LeadExp) : Option Nat :=
  match e.kind with
  | .remote => e.times.map fun t => sat16 (t.2 + pollAllowance s - e.elapsed)
  | .travel | .pick => e.budget

def leadExpFields (s : State) : Option LeadExp → List Byte
  | some e =>
    u8 e.node ++ i32 e.ref.toInt ++ opt32 (if e.kind = .pick then none else some (e.lo : Int)) ++ i32 e.hi ++
      opt16 (shownBudget s e)
  | none => opt8 none ++ opt32 none ++ opt32 none ++ opt32 none ++ opt16 none

def trailExpFields : Option TrailExp → List Byte
  | some e => u8 e.node ++ i32 e.ref.toInt ++ i32 e.hi ++ opt16 e.budget
  | none => opt8 none ++ opt32 none ++ opt32 none ++ opt16 none

def setPartFields (p : Option SetPart) : List Byte :=
  opt8 (p.map (·.slot)) ++ opt16 (p.map (·.number)) ++ opt16 (p.map (·.position)) ++
    opt8 (p.map fun q => boolNat q.last) ++ opt8 (p.map fun q => boolNat q.staple)

/-- The fields of R50 before the arrivals. -/
def sheetHead (s : State) (r : Record) : List Byte :=
  u16 r.sheet ++ u8 r.job ++ u16 r.ordinal ++ u8 r.route ++ flag8 r.unordered ++ opt8 r.media ++ u16 r.declared ++
    u8 r.tolerance ++ u16 r.doubleMargin ++ u8 r.slip ++ opt16 r.measured ++ u16 r.pageA ++ opt16 r.pageB ++
    setPartFields r.setPart ++ u8 r.progress.code ++ u8 r.lead.step ++ i32 r.lead.ref.toInt ++ i32 r.lead.offset ++
    u8 r.trailStep ++ opt32 (r.depth.map (·.value)) ++ opt32 (r.depth.map (·.ref.toInt)) ++
    opt8 (r.sideA.map (·.code)) ++ opt8 (r.sideB.map (·.code)) ++ u8 r.repick ++ leadExpFields s r.leadExp ++
    trailExpFields r.trailExp

/-- The fields of R50 after the arrivals, and the record's place in the list. -/
def sheetTail (r : Record) (place : Nat) : List Byte :=
  flag8 r.handOff ++ opt8 (r.purgeJoin.map (·.route)) ++ opt8 (r.purgeJoin.map (·.step)) ++ opt8 (r.disp.map (·.code)) ++
    u8 place

def sheetFields (s : State) (r : Record) (place : Nat) : List Byte :=
  let head := sheetHead s r
  let tail := sheetTail r place
  let room := Config.maxPayload - 2 - head.length - tail.length - 2
  head ++ list8 (fitting room (r.arrivals.map fun a => u8 a.node ++ u8 a.zone ++ i32 a.stamp.toInt)) ++
    u8 r.arrivals.length ++ tail

def performQuerySheet (tag : Byte) (sheet : Nat) (s : State) : State :=
  match findRec s sheet with
  | some r => done kQUERY tag (sheetFields s r ((sheetsOf s).idxOf sheet + 1)) s
  | none => refuse kQUERY tag .unknownSheet s

def execQuerySheet (tag : Byte) (sheet : Nat) (s : State) : Host.Outcome State Fault Refusal :=
  .next (takeRequest kQUERY tag (performQuerySheet tag sheet) s)

def flightFields (r : Record) : List Byte :=
  u16 r.sheet ++ u8 r.job ++ u16 r.ordinal ++ u8 r.route ++ u8 r.progress.code ++ u8 r.lead.step ++ i32 r.lead.offset ++
    u8 r.trailStep ++ opt8 (r.sideA.map (·.code)) ++ opt8 (r.sideB.map (·.code)) ++ opt8 (r.disp.map (·.code))

def performQueryFlight (tag : Byte) (page : Nat) (s : State) : State :=
  if page ≤ 3 then
    done kQUERY tag (list8 (((s.flt.list.drop (6 * page)).take 6).map flightFields) ++ u8 s.flt.list.length ++
      u16 s.flt.counter) s
  else refuse kQUERY tag .field s

def execQueryFlight (tag : Byte) (page : Nat) (s : State) : Host.Outcome State Fault Refusal :=
  .next (takeRequest kQUERY tag (performQueryFlight tag page) s)

/-! ## QUERY NODES (R33) -/

def nodeFields (s : State) (n : Nat) (e : NodeEntry) : List Byte :=
  let q := nodeAt s n
  let levels := q.baseline.bind (levelsOf s.pms)
  u8 n ++ opt8 e.line ++ opt16 q.latest ++ opt16 q.baseline ++ opt16 (levels.map (·.1)) ++ opt16 (levels.map (·.2)) ++
    u8 q.level.code ++ u8 q.health.code

def nodesFields (s : State) (first count : Nat) : List Byte :=
  list8 (fitting (listRoom 0)
    (((sensorNodes s.pms).filter fun p => first ≤ p.1 && p.1 < first + count).map fun p => nodeFields s p.1 p.2))

def performQueryNodes (tag : Byte) (first count : Nat) (s : State) : State := done kQUERY tag (nodesFields s first count) s

def execQueryNodes (tag : Byte) (first count : Nat) (s : State) : Host.Outcome State Fault Refusal :=
  .next (takeRequest kQUERY tag (performQueryNodes tag first count) s)

/-! ## REQUEST_FRAME and FRAME_GAP (R177, R178) -/

/-- A request handed to its owning block; an event is none. -/
def performRequest : Instr → State → State
  | .ident t => performIdent t
  | .reset t => performReset t
  | .mapPut t table first count body => performMapPut t table first count body
  | .mapGet t table first count => performMapGet t table first count
  | .arm t => performArm t
  | .disarm t => performDisarm t
  | .calibrate t => performCalibrate t
  | .speed t z v d => performSpeed t z v d
  | .gate t g p => performGate t g p
  | .sheetS t j o m r a => performSheetS t j o m r a
  | .sheetF t j o r m l a b sn sp f => performSheetF t j o r m l a b sn sp f
  | .resume t => performResume t
  | .abandon t j => performAbandon t j
  | .take t n => performTake t n
  | .lines t l e => performLines t l e
  | .snapAdopt t => performSnapAdopt t
  | .snapDrop t => performSnapDrop t
  | .queryState t => performQueryState t
  | .querySheet t n => performQuerySheet t n
  | .queryFlight t p => performQueryFlight t p
  | .queryAreas t => performQueryAreas t
  | .queryZones t p => performQueryZones t p
  | .queryNodes t f c => performQueryNodes t f c
  | .queryJam t => performQueryJam t
  | .querySets t p => performQuerySets t p
  | .queryReprint t => performQueryReprint t
  | .queryLines t => performQueryLines t
  | .queryStations t => performQueryStations t
  | .querySnapshot t f c => performQuerySnapshot t f c
  | .requestFrame _ | .frameGap | .transmitEnd | .linkBreak | .sensorEdge _ _ _ | .baselineTrack | .calibrateEnd
  | .coverEvent _ _ | .gateFeedback _ _ | .gateSwitchTimeout _ | .encoderEdge _ _ | .invalidStep _ | .stall _ | .standstill
  | .lateTime _ | .stay _ | .repick _ | .misfeed _ | .remoteLate _ | .areaCheck _ | .immediateCheck _ | .pollSlot
  | .stationReply _ _ | .badReply | .pollMiss | .stationPresent _ | .stationAbsent _ | .supplyWarn | .supplyNormal
  | .rowWriteEnd | .brownOut | .externalReset | .start _ _ _ => id

/-- Steps 4 to 7 of R178 on a complete frame's kind, tag, length byte, payload and CRC byte. -/
def judgeFrame (kind tag len : Byte) (payload : List Byte) (crc : Byte) (s : State) : State :=
  if crc8 (kind :: tag :: len :: payload) ≠ crc then refuse kind tag .check s
  else
    match parseRequest kind tag payload with
    | .badKind => refuse kind tag .kind s
    | .badLength => refuse kind tag .length s
    | .badItem => refuse kind tag .field s
    | .ok i => performRequest i s

def setRx (r : Receiver) (s : State) : State := { s with clk := { s.clk with rx := r } }

/-- A frame is judged and answered, unless a reset is coming or a reply is pending (R180, R187). -/
def judge (kind tag : Byte) (f : State → State) (s : State) : State :=
  if s.clk.deaf then s else unlessPending kind tag (fun s => finish (f s)) s

/-- The receiver has taken one more byte of its frame: the length byte may end it, the CRC byte completes it. -/
def frameByte (bs : List Byte) (s : State) : State :=
  match bs with
  | [kind, tag, len] =>
    if Config.maxPayload < len.toNat then judge kind tag (refuse kind tag .length) (setRx .idle s)
    else setRx ⟨true, bs, 0⟩ s
  | kind :: tag :: len :: rest =>
    if rest.length = len.toNat + 1 then
      judge kind tag (judgeFrame kind tag len rest.dropLast (rest.getLast?.getD 0)) (setRx .idle s)
    else setRx ⟨true, bs, 0⟩ s
  | _ => setRx ⟨true, bs, 0⟩ s

/-- One character (R177): a fault character counts for nothing, a ninth bit starts a frame and cuts the one before it. -/
def takeChar (s : State) (c : RxChar) : State :=
  if !c.stop then s
  else if c.ninth then setRx ⟨true, [c.byte], 0⟩ (cutFrame s)
  else if s.clk.rx.inFrame then frameByte (s.clk.rx.bytes ++ [c.byte]) s
  else s

/-- REQUEST_FRAME: characters received back to back. -/
def execRequestFrame (chars : List RxChar) (s : State) : Host.Outcome State Fault Refusal :=
  .next (takeEvent (fun s => chars.foldl takeChar (hear s)) s)

/-- FRAME_GAP: more than 2 ms without a character. -/
def execFrameGap (s : State) : Host.Outcome State Fault Refusal := .next (takeEvent cutFrame s)

/-! ## TRANSMIT_END (R180, R183, R184, R187) -/

/-- The reply to a frame held in the overrun mark (R180); a kind outside 0x01 to 0x3F is answered with 0x7F (R178, log 61). -/
def overrunReply (kind tag : Byte) : Reply := ⟨replyKind kind, tag, .overrun, false, []⟩

/-- The DONE reply to RESET, whose end makes the reset due. -/
def isResetReply (r : Reply) : Bool := r.kind == replyKind kRESET && r.status == .done

/-- The pending reply begins. A held mark becomes the next pending reply, and is cleared when that one begins (R180). -/
def beginReply (r : Reply) (c : Clk) : Clk :=
  let c := { c with tx := some ⟨r.bytes, isResetReply r⟩ }
  if r.status = .overrun then { c with reply := .none, mark := none }
  else
    match c.mark with
    | some (k, t) => { c with reply := .formed (overrunReply k t) }
    | none => { c with reply := .none }

/-- The oldest notice begins, with the LOST flag as it stands, which is then cleared (R183). -/
def beginNotice (c : Clk) : Clk :=
  match c.notices with
  | n :: ns => { c with tx := some ⟨n.bytes c.lost, false⟩, notices := ns, lost := false }
  | [] => c

/-- The next frame: the pending reply when one is formed, else the oldest notice (R184). -/
def beginFrame (c : Clk) : Clk :=
  match c.reply with
  | .formed r => beginReply r c
  | .forming _ _ | .none => beginNotice c

/-- The frame on the transmitter ends; the end of the RESET reply makes the reset due (R187). -/
def endFrame (s : State) : State :=
  match s.clk.tx with
  | some f =>
    let s := { s with clk := { s.clk with tx := none } }
    if f.isReset then resetDue .resetRequest s else s
  | none => s

def transmitEnd (s : State) : State :=
  let s := endFrame s
  if s.sys.live then setClk (beginFrame s.clk) s else s

def execTransmitEnd (s : State) : Host.Outcome State Fault Refusal := .next (takeEvent transmitEnd s)

/-! ## LINK_BREAK (R188) -/

/-- LINK_BREAK: the line has been low for 20 ms, after it was read high. -/
def linkBreak (s : State) : State :=
  if s.clk.breakArmed then
    resetDue .linkBreak { s with clk := { s.clk with breakArmed := false, breakCount := 0, deaf := true } }
  else s

def execLinkBreak (s : State) : Host.Outcome State Fault Refusal :=
  .next (takeEvent linkBreak { s with pins := { s.pins with rxHigh := false } })

end Sys2Proof.Machine
end

