-- ==== Sys2Proof/Machine/Dispatch.lean ====
section
/-! DEFINITION. One arm per command. -/

namespace Sys2Proof.Machine

def exec (i : Instr) (s : State) : Host.Outcome State Fault Refusal :=
  match i with
  | .ident tag => Sys2Proof.Machine.execIdent tag s
  | .reset tag => Sys2Proof.Machine.execReset tag s
  | .mapPut tag table first count body => Sys2Proof.Machine.execMapPut tag table first count body s
  | .mapGet tag table first count => Sys2Proof.Machine.execMapGet tag table first count s
  | .arm tag => Sys2Proof.Machine.execArm tag s
  | .disarm tag => Sys2Proof.Machine.execDisarm tag s
  | .calibrate tag => Sys2Proof.Machine.execCalibrate tag s
  | .speed tag zone spd dir => Sys2Proof.Machine.execSpeed tag zone spd dir s
  | .gate tag gate pos => Sys2Proof.Machine.execGate tag gate pos s
  | .sheetS tag job ordinal media route pageA => Sys2Proof.Machine.execSheetS tag job ordinal media route pageA s
  | .sheetF tag job ordinal route media length pageA pageB setNo setPos flags => Sys2Proof.Machine.execSheetF tag job ordinal route media length pageA pageB setNo setPos flags s
  | .resume tag => Sys2Proof.Machine.execResume tag s
  | .abandon tag job => Sys2Proof.Machine.execAbandon tag job s
  | .take tag count => Sys2Proof.Machine.execTake tag count s
  | .lines tag line enable => Sys2Proof.Machine.execLines tag line enable s
  | .snapAdopt tag => Sys2Proof.Machine.execSnapAdopt tag s
  | .snapDrop tag => Sys2Proof.Machine.execSnapDrop tag s
  | .queryState tag => Sys2Proof.Machine.execQueryState tag s
  | .querySheet tag sheet => Sys2Proof.Machine.execQuerySheet tag sheet s
  | .queryFlight tag page => Sys2Proof.Machine.execQueryFlight tag page s
  | .queryAreas tag => Sys2Proof.Machine.execQueryAreas tag s
  | .queryZones tag part => Sys2Proof.Machine.execQueryZones tag part s
  | .queryNodes tag first count => Sys2Proof.Machine.execQueryNodes tag first count s
  | .queryJam tag => Sys2Proof.Machine.execQueryJam tag s
  | .querySets tag page => Sys2Proof.Machine.execQuerySets tag page s
  | .queryReprint tag => Sys2Proof.Machine.execQueryReprint tag s
  | .queryLines tag => Sys2Proof.Machine.execQueryLines tag s
  | .queryStations tag => Sys2Proof.Machine.execQueryStations tag s
  | .querySnapshot tag first count => Sys2Proof.Machine.execQuerySnapshot tag first count s
  | .requestFrame chars => Sys2Proof.Machine.execRequestFrame chars s
  | .frameGap => Sys2Proof.Machine.execFrameGap s
  | .transmitEnd => Sys2Proof.Machine.execTransmitEnd s
  | .linkBreak => Sys2Proof.Machine.execLinkBreak s
  | .sensorEdge line first second => Sys2Proof.Machine.execSensorEdge line first second s
  | .baselineTrack => Sys2Proof.Machine.execBaselineTrack s
  | .calibrateEnd => Sys2Proof.Machine.execCalibrateEnd s
  | .coverEvent line isOpen => Sys2Proof.Machine.execCoverEvent line isOpen s
  | .gateFeedback line pos => Sys2Proof.Machine.execGateFeedback line pos s
  | .gateSwitchTimeout gate => Sys2Proof.Machine.execGateSwitchTimeout gate s
  | .encoderEdge zone forward => Sys2Proof.Machine.execEncoderEdge zone forward s
  | .invalidStep zone => Sys2Proof.Machine.execInvalidStep zone s
  | .stall zone => Sys2Proof.Machine.execStall zone s
  | .standstill => Sys2Proof.Machine.execStandstill s
  | .lateTime sheet => Sys2Proof.Machine.execLateTime sheet s
  | .stay sheet => Sys2Proof.Machine.execStay sheet s
  | .repick sheet => Sys2Proof.Machine.execRepick sheet s
  | .misfeed sheet => Sys2Proof.Machine.execMisfeed sheet s
  | .remoteLate sheet => Sys2Proof.Machine.execRemoteLate sheet s
  | .areaCheck area => Sys2Proof.Machine.execAreaCheck area s
  | .immediateCheck area => Sys2Proof.Machine.execImmediateCheck area s
  | .pollSlot => Sys2Proof.Machine.execPollSlot s
  | .stationReply frame lag => Sys2Proof.Machine.execStationReply frame lag s
  | .badReply => Sys2Proof.Machine.execBadReply s
  | .pollMiss => Sys2Proof.Machine.execPollMiss s
  | .stationPresent station => Sys2Proof.Machine.execStationPresent station s
  | .stationAbsent station => Sys2Proof.Machine.execStationAbsent station s
  | .supplyWarn => Sys2Proof.Machine.execSupplyWarn s
  | .supplyNormal => Sys2Proof.Machine.execSupplyNormal s
  | .rowWriteEnd => Sys2Proof.Machine.execRowWriteEnd s
  | .brownOut => Sys2Proof.Machine.execBrownOut s
  | .externalReset => Sys2Proof.Machine.execExternalReset s
  | .start strap1 strap2 coreKept => Sys2Proof.Machine.execStart strap1 strap2 coreKept s

end Sys2Proof.Machine
end

