-- ==== Sys2Proof/Machine/Tick.lean ====
section
/-! DEFINITION. What `step` does when no command waits (log 1): events that are due are put into the queue; when none is due, one
millisecond of the timebase passes, every timer moves, and the events whose time that millisecond completes join the queue. -/

namespace Sys2Proof.Machine

/-- An event joins the queue. -/
def enqueue (i : Instr) (s : State) : State := { s with pending := s.pending ++ [i] }

def enqueueIf (b : Bool) (i : Instr) (s : State) : State := if b then enqueue i s else s

/-! ## Events that are due before time passes (R104, R128, R184) -/

def replyFormed (r : PendingReply) : Bool :=
  match r with
  | .formed _ => true
  | .forming _ _ | .none => false

/-- STANDSTILL in HALTING with the indication true, each immediate check, and the idle transmitter with a frame to send. -/
def dueNow (s : State) : List Instr :=
  (if s.rcv.path = .halting ∧ standing s then [.standstill] else []) ++
  s.clm.due.map .immediateCheck ++
  (if s.clk.tx.isNone && (replyFormed s.clk.reply || !s.clk.notices.isEmpty) then [.transmitEnd] else [])

/-! ## Zones and gates (R38, R41, R43) -/

/-- The edge age of one zone (R41). -/
def tickZone (s : State) (z : Nat) : State :=
  match s.pms.zone? z with
  | some e =>
    let q := zoneAt s z
    if q.speed = 0 then s
    else
      let age := min (q.age + 1) 65535
      enqueueIf (decide (e.stallTime ≤ age) && !q.stallMark) (.stall z) (setZone z { q with age := age } s)
  | none => s

/-- The switch timer of one gate (R43). -/
def tickGate (s : State) (g : Nat) : State :=
  match s.pms.gate? g with
  | some e =>
    if switching s g then
      let t := min ((gateAt s g).timer + 1) e.switchTime
      enqueueIf (t == e.switchTime) (.gateSwitchTimeout g) (setGate g { gateAt s g with timer := t } s)
    else s
  | none => s

/-! ## Windows (R76, R79, R82, R85, R88, R90) -/

def tickBudget (b : Option Nat) : Option Nat := b.map (· - 1)

/-- A budget that has come to 0 in the window of a judged record. -/
def runsOutNow (s : State) (r : Record) (b : Option Nat) : Bool := judged s r && b == some 0

/-- One lead window at a millisecond in which its zone is commanded to move. -/
def tickLeadExp (e : LeadExp) : LeadExp :=
  match e.kind with
  | .travel | .pick => { e with budget := tickBudget e.budget }
  | .remote => { e with elapsed := e.elapsed + 1 }

def tickTrailExp (e : TrailExp) : TrailExp := { e with budget := tickBudget e.budget }

/-- The event a lead window's time completes. -/
def leadEvent (s : State) (r : Record) (e : LeadExp) : Option Instr :=
  match e.kind with
  | .travel => if runsOutNow s r e.budget then some (.lateTime r.sheet) else none
  | .pick => if runsOutNow s r e.budget then some (if r.repick = 0 then .repick r.sheet else .misfeed r.sheet) else none
  | .remote => (overdue s { r with leadExp := some e }).map fun _ => .remoteLate r.sheet

/-- The windows of one record. A remote window is judged each millisecond, its zone moving or not (R90). -/
def tickRecord (s : State) (sheet : Nat) : State :=
  withRec sheet (fun r s =>
    let lead := r.leadExp.map fun e => if runs s e.zone then tickLeadExp e else e
    let trail := r.trailExp.map fun e => if runs s e.zone then tickTrailExp e else e
    let s1 := putRec { r with leadExp := lead, trailExp := trail } s
    let s2 := match lead with
      | some e =>
        if runs s e.zone || e.kind == .remote then
          (match leadEvent s r e with
          | some i => enqueue i s1
          | none => s1)
        else s1
      | none => s1
    match trail with
    | some e => enqueueIf (runs s e.zone && runsOutNow s r e.budget) (.stay r.sheet) s2
    | none => s2) s

/-! ## Areas, stations, supply, rows (R125, R153, R154, R164, R165, R167) -/

/-- The check timer of one area (R125). -/
def tickArea (s : State) (a : Nat) : State :=
  let q := areaAt s a
  if q.status = .checking then
    let t := min (q.timer + 1) Config.checkTime
    enqueueIf (t == Config.checkTime) (.areaCheck a) (setArea a { q with timer := t } s)
  else s

/-- One station's retry timer and presence line (R153, R154). -/
def tickStation (s : State) (k : Nat) : State :=
  let q := stationAt s k
  let pin := (s.pins.presence[k - 1]?).getD false
  let q := if q.link = .lost then { q with retry := min (q.retry + 1) 100 } else q
  if pin = q.present then setStation k { q with presenceCount := 0 } s
  else if Config.presenceSamples ≤ q.presenceCount + 1 then
    enqueue (if pin then .stationPresent k else .stationAbsent k) (setStation k { q with presenceCount := 0 } s)
  else setStation k { q with presenceCount := q.presenceCount + 1 } s

/-- The slot clock (R154): an exchange still open at its slot's end had no reply (R156). The clock stands at 3 ms until POLL_SLOT
starts the next slot. -/
def tickSlot (s : State) : State :=
  let n := min (s.xlm.slot + 1) 3
  let t : State := { s with xlm := { s.xlm with slot := n } }
  if 3 ≤ n then enqueue .pollSlot (enqueueIf s.xlm.exchange.isSome .pollMiss t) else t

/-- The supply timers (R164, R165). -/
def tickSupply (s : State) : State :=
  let p := s.spm
  if p.warn then
    let t := if s.pins.supplyLow then 0 else p.recTimer + 1
    if 50 ≤ t then enqueue .supplyNormal (setSpm { p with recTimer := 0 } s) else setSpm { p with recTimer := t } s
  else
    let t := if s.pins.supplyLow then p.warnTimer + 1 else 0
    if 2 ≤ t then enqueue .supplyWarn (setSpm { p with warnTimer := 0 } s) else setSpm { p with warnTimer := t } s

/-- The row write in progress: 12 tenths of a millisecond (R167). -/
def tickRows (s : State) : State :=
  if s.spm.ops.isEmpty then s
  else
    enqueueIf (decide (12 ≤ s.spm.elapsed + 10)) .rowWriteEnd (setSpm { s.spm with elapsed := s.spm.elapsed + 10 } s)

/-! ## Switch inputs (R31, R32) -/

def tickCover (s : State) (l : Nat) : State :=
  let pin := (s.pins.covers[l]?).getD false
  let n := (s.sfe.coverCount[l]?).getD 0 + 1
  let put (v : Nat) (s : State) : State := { s with sfe := { s.sfe with coverCount := s.sfe.coverCount.set l v } }
  if (s.sfe.covers[l]?).getD false = pin then put 0 s
  else if Config.coverSamples ≤ n then enqueue (.coverEvent l pin) (put 0 s)
  else put n s

def tickFeedback (s : State) (l : Nat) : State :=
  let pin := (s.pins.feedback[l]?).getD false
  let put (v : Nat) (s : State) : State := { s with sfe := { s.sfe with feedbackRun := s.sfe.feedbackRun.set l v } }
  if (s.sfe.feedback[l]?).getD false = pin then put 0 s
  else if (s.sfe.feedbackRun[l]?).getD 0 = 1 then enqueue (.gateFeedback l pin) (put 0 s)
  else put 1 s

/-! ## Sensor scans (R19, R21, R24, R26): four a millisecond, with the pin standing still -/

/-- The sample would bring the node nearer to the other level (R21). -/
def farSide (m : MapStore) (x : Nat) (q : NodeState) : Bool :=
  match q.level, q.baseline.bind (levelsOf m) with
  | .clear, some (cover, _) => decide (x < cover)
  | .covered, some (_, clear) => decide (clear < x)
  | _, _ => false

def tickSensor (s : State) (line : Nat) : State :=
  let x := (s.pins.sensors[line]?).getD 0
  let edge := (nodeOfLine s.pms line).any fun n => farSide s.pms x (nodeAt s n)
  let twice (c : Calibration) : Calibration := accumulate line x (accumulate line x c)
  if edge then enqueue (.sensorEdge line x x) (setCalib (s.sfe.calib.map twice) s)
  else
    let s := setCalib (s.sfe.calib.map fun c => twice (twice c)) s
    match nodeOfLine s.pms line with
    | some n => setNode n { nodeAt s n with latest := some x, run := 0 } s
    | none => s

/-- A calibration spans 4 ms (R24). -/
def tickCalibration (s : State) : State :=
  match s.sfe.calib with
  | some c => enqueueIf (decide (4 ≤ c.ms + 1)) .calibrateEnd (setCalib (some { c with ms := c.ms + 1 }) s)
  | none => s

def tickTracking (s : State) : State := enqueueIf (s.sys.now % 16 == 0) .baselineTrack s

/-! ## The command link (R177, R188) -/

def tickLink (s : State) : State :=
  let r := s.clk.rx
  if r.inFrame then
    enqueueIf (decide (2 < r.gap + 1)) .frameGap { s with clk := { s.clk with rx := { r with gap := r.gap + 1 } } }
  else s

def tickBreak (s : State) : State :=
  if s.pins.rxHigh then { s with clk := { s.clk with breakArmed := true, breakCount := 0 } }
  else if s.clk.breakArmed then
    enqueueIf (decide (20 ≤ s.clk.breakCount + 1)) .linkBreak
      { s with clk := { s.clk with breakCount := min (s.clk.breakCount + 1) 20 } }
  else s

/-! ## The millisecond -/

/-- The clock and the quiet time; the moment of a second failure is over (log 74). -/
def tickClock (s : State) : State :=
  setMoment .none (setQuiet (min (s.zdu.quiet + 1) Config.quietTime) { s with sys := { s.sys with now := s.sys.now + 1 } })

/-- One millisecond of the timebase. -/
def passMs (s : State) : State :=
  let s := tickClock s
  let s := tickTracking (tickCalibration ((List.range 24).foldl tickSensor s))
  let s := (List.range 6).foldl tickFeedback ((List.range 8).foldl tickCover s)
  let s := (List.range 6).foldl tickGate ((List.range 8).foldl tickZone s)
  let s := (sheetsOf s).foldl tickRecord s
  let s := (List.range 12).foldl tickArea s
  let s := tickSlot ([1, 2, 3].foldl tickStation s)
  tickBreak (tickLink (tickRows (tickSupply s)))

/-- The block with no command waiting: nothing while it is held in reset; else what is due, else one millisecond. -/
def idle (s : State) : State :=
  if s.sys.live then
    match dueNow s with
    | [] => passMs s
    | is => { s with pending := s.pending ++ is }
  else s

end Sys2Proof.Machine
end

