-- ==== Sys2Proof/WellFormed.lean ====
section
/-! DEFINITION. Which commands can be sent: every operand fits its field of the frame (R189, R190), and every event names an
input, a unit or a number that the part has (00_scope.md, "Pins and electrical summary"; R1, R50). A command that is not
well formed still has its meaning; no frame and no pin can bring it. -/

namespace Sys2Proof

/-- Fits one byte. -/
def isByte (n : Nat) : Bool := decide (n < 256)

/-- Fits two bytes. -/
def isWord (n : Nat) : Bool := decide (n < 65536)

/-- Absent, or two bytes that are not the absence value 0xFFFF (R189). -/
def isOptWord (o : Option Nat) : Bool := o.all fun n => decide (n < 65535)

/-- A number a sheet can carry (R50). -/
def isSheet (n : Nat) : Bool := decide (1 ≤ n) && decide (n ≤ 65535)

/-- MAP_PUT: its count and its length agree for a table that exists, and the payload is at most 120 bytes (R2, R177, R178). -/
def mapPutOk (table first count : Nat) (body : List Byte) : Bool :=
  isByte table && isByte first && isByte count && decide (body.length ≤ 117) &&
    (decide (7 < table) || body.length == count * Machine.entryBytes table)

def Instr.wf : Instr → Bool
  | .ident _ | .reset _ | .arm _ | .disarm _ | .calibrate _ | .resume _ | .snapAdopt _ | .snapDrop _ => true
  | .mapPut _ table first count body => mapPutOk table first count body
  | .mapGet _ table first count => isByte table && isByte first && isByte count
  | .speed _ zone spd dir => isByte zone && isWord spd && isByte dir
  | .gate _ g pos => isByte g && isByte pos
  | .sheetS _ job ordinal media route pageA =>
    isByte job && isWord ordinal && decide (media < 16) && decide (route < 16) && isWord pageA
  | .sheetF _ job ordinal route media length pageA pageB setNo setPos flags =>
    isByte job && isWord ordinal && isByte route && isByte media && isWord length && isWord pageA && isOptWord pageB &&
      isOptWord setNo && isWord setPos && isByte flags
  | .abandon _ job => isByte job
  | .take _ count => isByte count
  | .lines _ line enable => isByte line && isWord enable
  | .queryState _ | .queryAreas _ | .queryJam _ | .queryReprint _ | .queryLines _ | .queryStations _ => true
  | .querySheet _ sheet => isWord sheet
  | .queryFlight _ page | .querySets _ page => isByte page
  | .queryZones _ part => isByte part
  | .queryNodes _ first count | .querySnapshot _ first count => isByte first && isByte count
  | .requestFrame _ | .frameGap | .transmitEnd | .linkBreak | .baselineTrack | .calibrateEnd | .standstill | .pollSlot
  | .badReply | .pollMiss | .supplyWarn | .supplyNormal | .rowWriteEnd | .brownOut | .externalReset | .start _ _ _ => true
  | .sensorEdge line first second => decide (line < 24) && decide (first ≤ 1023) && decide (second ≤ 1023)
  | .coverEvent line _ => decide (line < 8)
  | .gateFeedback line _ => decide (line < 6)
  | .gateSwitchTimeout g => decide (g < 6)
  | .encoderEdge zone _ | .invalidStep zone | .stall zone => decide (zone < 8)
  | .lateTime sheet | .stay sheet | .repick sheet | .misfeed sheet | .remoteLate sheet => isSheet sheet
  | .areaCheck area | .immediateCheck area => decide (area < 12)
  | .stationReply frame _ => decide (frame.payload.length ≤ 255)
  | .stationPresent station | .stationAbsent station => decide (1 ≤ station) && decide (station ≤ 3)

end Sys2Proof
end

