-- ==== Sys2Proof/Safety.lean ====
section
/-! DEFINITION. What statements are said in: the requests the part is ready to take, the state that an answered request leaves,
and the invariants of the part's stores and of its path state. -/

namespace Sys2Proof.Machine

/-! ## Answered requests -/

/-- No command is half done, as between any two steps: no REPRINT notice is owed (R137), and no FLT event is underway (log 74). -/
def Settled (s : State) : Prop := s.rpq.touched = false ∧ s.rcv.moment.underway = false

/-- The part takes and performs a request now: it has started, no reset is coming (R187), no reply is pending (R180), no frame
is in progress whose cut would be answered first (R177), and no command is half done. -/
def Ready (s : State) : Prop :=
  s.sys.live = true ∧ s.clk.deaf = false ∧ s.clk.reply = .none ∧ s.clk.rx.inFrame = false ∧ Settled s

/-- The state in which a request's owning block performs it: the receive line has been heard and the receiver is idle. -/
def heard (s : State) : State :=
  { s with
    pins := { s.pins with rxHigh := true }
    clk := { s.clk with rx := .idle, breakArmed := true, breakCount := 0 } }

/-- `s` with a pending reply. -/
def replied (kind tag : Byte) (status : Status) (clamped : Bool) (fields : List Byte) (s : State) : State :=
  { s with clk := { s.clk with reply := .formed ⟨kind, tag, status, clamped, fields⟩ } }

/-- A notice that the queue has room for joins its tail. -/
def noticed (ns : List Notice) (s : State) : State := { s with clk := { s.clk with notices := s.clk.notices ++ ns } }

/-- The notice queue has room for `n` more notices (R183). -/
def Room (n : Nat) (s : State) : Prop := s.clk.notices.length + n ≤ 32

/-- The halt of a first cause (R102): the jam record written, HALTING, and every zone at speed and duty 0. -/
def halted (j : JamRecord) (s : State) : State :=
  { s with
    rcv := { s.rcv with path := .halting, jam := j }
    zdu := { s.zdu with zones := s.zdu.zones.map fun q => { q with speed := 0, duty := 0, age := 0 } } }

/-- What a first cause leaves (R93, R102): the halt with its jam record, and the record's JAM notice at the queue's tail. -/
def jammed (c : JamCause) (areas : List Nat) (s : State) : State :=
  noticed [.jam false ⟨some c, none, areas⟩] (halted ⟨some c, none, areas⟩ s)

/-- The sheets whose windows are judged in RUNOUT (R80). -/
def watchedSheets (s : State) : List Nat :=
  (s.flt.list.filter fun r => decide (r.disp = some .deliver ∨ r.disp = some .purge)).map (·.sheet)

/-- What a second failure leaves (R93, R117): the record's second cause and the union of its areas, the halt, every record without
a disposition, those held back (RETAIN as RETAIN, every other as REMOVE), the record's JAM notice at the queue's tail, and, for the
other failures of its moment (R87), the sheets whose windows were judged, but after a GATE jam (R45, log 74). -/
def failedAgain (c : JamCause) (areas : List Nat) (s : State) : State :=
  let j : JamRecord := { s.rcv.jam with second := some c, areas := unionAreas s.rcv.jam.areas areas }
  let h := halted j s
  noticed [.jam false j] { h with
    flt := { s.flt with list := s.flt.list.map fun r => { r with disp := none } }
    rcv := { h.rcv with
      held := s.flt.list.filterMap fun r => r.disp.map fun d => (r.sheet, if d = .retain then .retain else .remove)
      moment := ⟨if c.cause = .gate then [] else watchedSheets s, false⟩ } }

/-- What a halting event leaves: a second failure in RUNOUT (R117), a first cause elsewhere (R102). -/
def failed (c : JamCause) (areas : List Nat) (s : State) : State :=
  if s.rcv.path = .runout then failedAgain c areas s else jammed c areas s

/-- Areas that join the jam area set (R93). -/
def areasJoined (areas : List Nat) (s : State) : State :=
  { s with rcv := { s.rcv with jam := { s.rcv.jam with areas := unionAreas s.rcv.jam.areas areas } } }

/-- What two failures of one moment leave, the first taken with areas `as`, the other with `bs` (R87, R93): in RUNOUT the other's
areas join the set; elsewhere the other is not recorded. -/
def failedTwice (c : JamCause) (as bs : List Nat) (s : State) : State :=
  if s.rcv.path = .runout then areasJoined bs (failedAgain c as s) else failed c as s

/-- HALTING in the millisecond of a second failure, as which the windows of sheet `n` were judged (R87, log 74). -/
def SameMoment (s : State) (n : Nat) : Prop := s.rcv.path = .halting ∧ n ∈ s.rcv.moment.sheets

/-- The path state is RUNNING or RUNOUT: sheets are driven, and a halting event halts them (R101). -/
def Driven (s : State) : Prop := s.rcv.path = .running ∨ s.rcv.path = .runout

/-- The windows and depths of a record are judged (R80). -/
def Watched (s : State) (r : Record) : Prop :=
  s.rcv.path = .running ∨ (s.rcv.path = .runout ∧ (r.disp = some .deliver ∨ r.disp = some .purge))

/-- The part takes an event now: it has started, and no command is half done. -/
def Awake (s : State) : Prop := s.sys.live = true ∧ Settled s

/-- The record that an admission makes whose first step, of segment `g`, ends at a working SENSOR node (R52, R58, R74, R75, R85):
ANNOUNCED with its pick window, its lead at offset 0 on step 1, no edge, no hand-off and no disposition. -/
def freshRecord (s : State) (a : Announced) (sheet : Nat) (part : Option SetPart) (g : SegEntry) : Record where
  sheet := sheet
  job := a.job
  ordinal := a.ordinal
  route := a.route
  unordered := a.unordered
  media := a.media
  declared := a.length
  tolerance := a.tolerance
  doubleMargin := a.doubleMargin
  slip := a.slip
  measured := none
  pageA := a.pageA
  pageB := a.pageB
  setPart := part
  progress := .announced
  lead := ⟨1, travelOf s g.zone, 0⟩
  trailStep := 1
  depth := none
  sideA := if 1 ≤ transferCount s.pms (routeSteps s.pms a.route) then some .notStarted else none
  sideB := if 2 ≤ transferCount s.pms (routeSteps s.pms a.route) then some .notStarted else none
  repick := 0
  leadExp := some
    { kind := .pick, node := g.dst, zone := g.zone, ref := travelOf s g.zone, lo := (g.len - g.early) * 100
      hi := (g.len + g.late) * 100 + ceilDiv (g.len * a.slip) 10, margin := g.margin
      budget := formBudget ((g.len + g.late) * 100 + ceilDiv (g.len * a.slip) 10) 0 g.margin (speedOf s g.zone)
      elapsed := 0, times := none }
  trailExp := none
  arrivals := []
  handOff := false
  purgeJoin := none
  disp := none

/-- The first step of a route is segment `g`, no REVERSE one (R12, R17, R58). -/
structure FeedsFirst (s : State) (route : Nat) (g : SegEntry) : Prop where
  first : ((stepNo (routeSteps s.pms route) 1).bind s.pms.seg?) = some g
  forward : g.kind ≠ .reverse

/-- `n` is the first number from the counter on, 65535 before 1, that no record and no SHEET reprint entry holds (R52). The 23 records
and 64 entries beside which a sheet may be admitted hold 87 numbers at most. -/
def FirstFree (s : State) (n : Nat) : Prop :=
  ∃ k ≤ 88, n = nextNumber^[k] s.flt.counter ∧ numberTaken s n = false ∧
    ∀ j < k, numberTaken s (nextNumber^[j] s.flt.counter) = true

/-- The one gate at the end of a first step, `k`, which the new record alone approaches with no body over its node, and the position
`p` of the route's second step (R15, R44). -/
structure GateAhead (s : State) (route : Nat) (g : SegEntry) (k : Nat) (e : GateEntry) (p : Bool) : Prop where
  here : (definedEntries s.pms.gates).filter (fun x => x.2.node == g.dst) = [(k, e)]
  room : k < s.zdu.gates.length
  second : (stepNo (routeSteps s.pms route) 2).bind (wantedPos e) = some p
  alone : ∀ r ∈ s.flt.list, wants s.pms e r = none
  free : bodyOver s e = false

/-- Such a gate after the positioning rule has served sheet `n` (R43, R44). -/
def servedGate (s : State) (k n : Nat) (e : GateEntry) (p : Bool) : GateState :=
  let q := gateAt s k
  let c : GateState :=
    if q.cmd = some p then q
    else if readingOf s e = p then { q with cmd := some p, status := .confirmed, faulted := false }
    else { q with cmd := some p, status := .moving, timer := 0, expired := false }
  { c with serving := some n }

/-- The fields of a SHEET_F request agree with media entry `e`, the route, the set table and the stream (R56). -/
structure FieldsAgree (s : State) (job route media length flags : Nat) (pageB setNo : Option Nat) (e : MediaEntry) : Prop where
  entry : s.pms.media? (if media = 255 then 0 else media) = some e
  declared : if media = 255 then 500 ≤ length ∧ length ≤ 20000 else length = 0
  duplex : duplexRoute s.pms route = true → e.duplex = true
  back : pageB.isSome = duplexRoute s.pms route
  known : flags < 8
  alone : setNo = none → flags.testBit 0 = false ∧ flags.testBit 1 = false
  member : ∀ k, setNo = some k → flags.testBit 2 = false ∧ (stationOfNode s.pms (routeDest s.pms route)).isSome = true ∧
    ∀ x, findSet s job k = some x → x.dest = routeDest s.pms route ∧ x.closed = false ∧ x.staple = flags.testBit 1
  stream : ∀ r ∈ s.flt.list, streamOf s.pms r = (job, routeDest s.pms route) → r.unordered = flags.testBit 2

/-! ## Events -/

/-- Two consecutive samples `x`, `y` of an input line make an edge at SENSOR node `n` (R20, R21): both below the cover level of a
CLEAR node for a LEAD, both above the clear level of a COVERED node for a TRAIL. -/
structure Edge (s : State) (line x y n : Nat) (lead : Bool) : Prop where
  free : s.sfe.calib = none
  line : nodeOfLine s.pms line = some n
  room : n < s.sfe.nodes.length
  run : (nodeAt s n).run = 0
  level : (nodeAt s n).level = if lead then .clear else .covered
  past : ∃ b m, (nodeAt s n).baseline = some b ∧ s.pms.params = some m ∧
    if lead then x < b * m.coverPct / 100 ∧ y < b * m.coverPct / 100 else b * m.clearPct / 100 < x ∧ b * m.clearPct / 100 < y

/-- The pin and the node after such an edge (R18, R21). -/
def edged (line y n : Nat) (lead : Bool) (s : State) : State :=
  setNode n { nodeAt s n with latest := some y, level := if lead then .covered else .clear }
    { s with pins := { s.pins with sensors := s.pins.sensors.set line y } }

/-- A counted edge of a defined zone, before any record moves (R38, R40, R41): the phase moves by one place, the travel by the pitch,
and the edge age, the stall mark and the quiet time go to 0. -/
def counted (z : Nat) (e : ZoneEntry) (fw : Bool) (s : State) : State :=
  let q := zoneAt s z
  setQuiet 0 (setZone z { q with
    phase := (q.phase + if fw then 1 else 3) % 4
    travel := if fw then q.travel + BitVec.ofNat 32 e.pitch else q.travel - BitVec.ofNat 32 e.pitch
    age := 0
    stallMark := false } s)

/-- A window on segment `g` that a lead opens when it takes its step with `run` µm of it behind (R62, R63, R74, R75). -/
def windowOn (s : State) (r : Record) (g : SegEntry) (run : Nat) : LeadExp :=
  let hi := (g.len + g.late) * 100 + ceilDiv (g.len * r.slip) 10
  { kind := .travel, node := g.dst, zone := g.zone, ref := travelOf s g.zone - BitVec.ofNat 32 run, lo := (g.len - g.early) * 100
    hi := hi, margin := g.margin, budget := formBudget hi run g.margin (speedOf s g.zone), elapsed := 0, times := none }

/-- The stay window of an entry of the arrivals under the body, under segment `g`'s tolerances (R64, R81). -/
def stayOn (s : State) (r : Record) (a : Arrival) (g : SegEntry) : TrailExp :=
  let hi := (lengthOf r + g.late) * 100 + ceilDiv (lengthOf r * r.slip) 10
  { node := a.node, zone := a.zone, ref := a.stamp, hi := hi, margin := g.margin
    budget := formBudget hi (travelDiff (travelOf s a.zone) a.stamp) g.margin (speedOf s a.zone) }

/-- A lead window as a remote one, opened with no travel run (R88). -/
def remoteOn (s : State) (w : LeadExp) : LeadExp :=
  let v := speedOf s w.zone
  { w with
    kind := .remote
    budget := none
    times := if v = 0 then none else some (min (w.lo / v) 65535, min (ceilDiv w.hi v + w.margin) 65535) }

/-- A record whose next steps make no hand-off: it was made, or no step of its path needs a station (R69). -/
def NoHandOff (s : State) (r : Record) : Prop := r.handOff = true ∨ stationsNeeded s.pms (pathOf s.pms r) 1 = []

/-- A moving path without gates whose only record, `r`, stands with its lead on segment `g` of the defined zone `z`. -/
structure Carries (s : State) (z : Nat) (e : ZoneEntry) (r : Record) (g : SegEntry) : Prop where
  room : z < s.zdu.zones.length
  zone : s.pms.zone? z = some e
  moves : moving s = true
  gates : definedEntries s.pms.gates = []
  only : s.flt.list = [r]
  lead : leadSeg s.pms r = some g
  here : g.zone = z

/-- A LEAD edge at working SENSOR node `n` of zone `z` goes to record `r`, whose window `e` accepts it (R61, R77, R80). -/
structure Arrives (s : State) (line x y n z : Nat) (r : Record) (e : LeadExp) : Prop where
  edge : Edge s line x y n true
  zone : nodeZone s.pms n = some z
  moves : moving s = true
  pocket : pocketEnd s n = false
  back : returnsWithin s n = none
  nearest : expectedAt s n = some r
  found : findRec s r.sheet = some r
  window : r.leadExp = some e
  accepts : e.kind ≠ .travel ∨ ¬Watched s r ∨
    ((e.lo : Int) ≤ travelDiff (travelOf s z) e.ref ∧ travelDiff (travelOf s z) e.ref ≤ e.hi)

/-- A good REPLY frame of station `k` (R152, R156). -/
def replyFrame (k : Nat) (payload : List Byte) : LinkFrame :=
  ⟨BitVec.ofNat 8 k, BitVec.ofNat 8 payload.length, 0x02, payload,
    crc8 (BitVec.ofNat 8 payload.length :: 0x02 :: payload)⟩

/-- What a good reply of an ONLINE station leaves before its parts are taken (R156, R157): the exchange ended, the miss count 0, and
what the POLL carried out of the queues. -/
def acknowledged (x : Exchange) (s : State) : State :=
  let q := stationAt s x.station
  setExchange none (setStation x.station { q with
    miss := 0
    handOffs := x.handOffs.foldl List.erase q.handOffs
    cancels := x.cancels.foldl List.erase q.cancels } s)

/-- A station that is ONLINE owes the reply of a POLL (R156). -/
structure Polled (s : State) (x : Exchange) : Prop where
  awake : Awake s
  open_ : s.xlm.exchange = some x
  station : 1 ≤ x.station ∧ x.station ≤ 3 ∧ s.xlm.stations.length = 3
  online : (stationAt s x.station).link = .online

/-- The areas that become due for an immediate check when station `k` stops answering (R128): those listed and NEEDED whose cover is
one of its covers, each behind the ones due already, once. -/
def stationDue (s : State) (k : Nat) : List Nat :=
  (s.clm.list.filter fun a => (areaAt s a).status == .needed && (s.pms.area? a).any fun e => match e.source with
    | .station j _ => j == k
    | _ => false).foldl (fun due a => if a ∈ due then due else due ++ [a]) s.clm.due

/-! ## Time -/

/-- A lead window a millisecond later (R76, R85, R88): while its zone is commanded to move its budget falls, to no less than 0, or, at a
REMOTE node, its elapsed count rises. -/
def agedLead (s : State) (e : LeadExp) : LeadExp :=
  if speedOf s e.zone = 0 then e
  else match e.kind with
    | .travel | .pick => { e with budget := e.budget.map (· - 1) }
    | .remote => { e with elapsed := e.elapsed + 1 }

/-- A stay window a millisecond later (R76). -/
def agedTrail (s : State) (e : TrailExp) : TrailExp :=
  if speedOf s e.zone = 0 then e else { e with budget := e.budget.map (· - 1) }

/-! ## Health -/

/-- R27's table. Tracking sets no baseline of a FAILED node (R26), and has no row there. -/
structure HealthTable (judge : Health → Setting → Nat → Health) : Prop where
  ok : ∀ k b, 400 ≤ b → judge .ok k b = .ok
  falls : ∀ k b, 200 ≤ b → b ≤ 399 → judge .ok k b = .degraded
  fails : ∀ h k b, h ≠ .failed → b < 200 → judge h k b = .failed
  stays : ∀ k b, 200 ≤ b → b ≤ 439 → judge .degraded k b = .degraded
  recovers : ∀ k b, 440 ≤ b → judge .degraded k b = .ok
  arm : ∀ b, judge .failed .arm b = .failed
  calibrateOk : ∀ b, 400 ≤ b → judge .failed .calibrate b = .ok
  calibrateDegraded : ∀ b, 200 ≤ b → b ≤ 399 → judge .failed .calibrate b = .degraded
  calibrateFailed : ∀ b, b < 200 → judge .failed .calibrate b = .failed

/-- The SENSOR notice of a node that takes baseline `b` by `setting`, when its health changes by that (R28). -/
def sensorNotice (s : State) (setting : Setting) (n b : Nat) (h : Health) : Option Notice :=
  if h = (nodeAt s n).health then none else some (.sensor n (nodeAt s n).health h b setting)

/-! ## Resumption -/

/-- The part with every purge join removed, as RESUME's positioning rule finds the records (R143). -/
def unjoined (s : State) : State := { s with flt := { s.flt with list := s.flt.list.map fun r => { r with purgeJoin := none } } }

/-- At RESUME gate `k` is commanded, does not read the position, and the sheet that it serves stands within its guard distance
(R43, R44, R45, R143). -/
def GateShort (s : State) (k : Nat) (e : GateEntry) : Prop :=
  let u := unjoined s
  ∃ r p, served u e = some r ∧ wants u.pms e r = some p ∧ bodyOver u e = false ∧ (gateAt s k).cmd ≠ some p ∧ readingOf s e ≠ p ∧
    remaining u.pms r ≤ (e.guard * 100 : Nat)

/-! ## Admissions -/

/-- The record that an admission makes on a first step of segment `g` (R58): as `freshRecord` before a working SENSOR node, and
before any other node MOVING, with a remote window at a REMOTE node (log 17) and no expectation elsewhere. -/
def admittedRecord (s : State) (a : Announced) (sheet : Nat) (part : Option SetPart) (g : SegEntry) : Record :=
  let r := freshRecord s a sheet part g
  if working s g.dst then r
  else { r with
    progress := .moving
    leadExp := if nodeKind s.pms g.dst = some .remote then r.leadExp.map (remoteOn s) else none }

/-- The set table with the set of a member with set part `part` of job `job` (R145), if it has one, replaced by what `change` makes of
it; `none` removes it. -/
def changedSet (part : Option SetPart) (job : Nat) (change : SetPart → SetEntry → Option SetEntry) (sets : List SetEntry) :
    List SetEntry :=
  match part with
  | some p =>
    match sets.find? fun y => y.slot == p.slot && y.job == job && y.number == p.number with
    | some y =>
      match change p y with
      | some y' => sets.map fun w => if w.slot = y.slot then y' else w
      | none => sets.filter fun w => decide (w.slot ≠ y.slot)
    | none => sets
  | none => sets

/-- The set table after a hand-off of a member with set part `part` of job `job` was taken (R147). -/
def handedSets (part : Option SetPart) (job : Nat) (sets : List SetEntry) : List SetEntry :=
  changedSet part job (fun p y => some { y with handedOff := y.handedOff + 1, lastSeen := y.lastSeen || p.last }) sets

/-- The set table after member `r` reached its station (R148). -/
def deliveredSets (r : Record) (sets : List SetEntry) : List SetEntry :=
  changedSet r.setPart r.job
    (fun _ y => some { y with lastDelivered := some (max (y.lastDelivered.getD r.ordinal) r.ordinal) }) sets

/-- The set table after member `r` was lost to its set: VOIDED, REMOVED or PURGED (R148). -/
def lostSets (r : Record) (sets : List SetEntry) : List SetEntry :=
  changedSet r.setPart r.job (fun p y =>
    let handed := y.handedOff - if r.handOff then 1 else 0
    if y.admitted ≤ 1 then none
    else some { y with
      admitted := y.admitted - 1
      handedOff := handed
      compiled := min y.compiled handed
      closed := y.closed && !p.last
      lastSeen := y.lastSeen && !p.last }) sets

/-- The set cancels of some sets (R150, R151, R155), in their order: the stations with the cancels that their queues of 8 took, and the
error notices of the others. -/
def setCancels (m : MapStore) : List SetEntry → List StationState → List StationState × List Notice
  | [], qs => (qs, [])
  | e :: es, qs =>
    match (m.node? e.dest).bind fun n => n.station.bind fun k => qs[k - 1]?.map fun q => (k, n.localNo, q) with
    | some (k, bin, q) =>
      if q.cancels.length < 8 then setCancels m es (qs.set (k - 1) { q with cancels := q.cancels ++ [⟨e.number, bin⟩] })
      else
        let (qs', ns) := setCancels m es qs
        (qs', .station k q.link (.errorSet e.number) :: ns)
    | none => setCancels m es qs

/-- What an accepted SHEET request `c` does (R44, R45, R52, R58, R69, R100, R155, R159), its sheet given number `n`, its set table
then `sets`: the record joins the list's tail, the counter goes past `n`, the path is RUNNING and the reply carries `n`. A gate
at the end of the first step takes the position of the second and serves the sheet, and is a GATE jam when the sheet lies within
its guard distance and it is not confirmed. A first step into a station makes the hand-off at once; a full queue loses the
station. -/
def Admits (c : Instr) (kind tag : Byte) (a : Announced) (part : Option SetPart) (sets : List SetEntry) (g : SegEntry) (n : Nat)
    (s : State) : Prop :=
  let r := admittedRecord s a n part g
  let joined (r : Record) (sets : List SetEntry) : State := { heard s with
    flt := ⟨s.flt.list ++ [r], if n = 65535 then 1 else n + 1⟩
    rcv := { s.rcv with path := .running }
    xlm := { s.xlm with sets := sets } }
  let u := joined r sets
  let answers (t : State) : Prop := exec c s = .next (replied kind tag .done false (u16 n) t)
  let bare := ∀ x ∈ definedEntries s.pms.gates, x.2.node ≠ g.dst
  let dest := routeDest s.pms a.route
  (stationOfNode s.pms g.dst = none → bare → answers u) ∧
  (∀ k ge p, stationOfNode s.pms g.dst = none → GateAhead s a.route g k ge p →
    let q := servedGate s k n ge p
    (ge.guard < g.len ∨ q.status = .confirmed → answers (setGate k q u)) ∧
    (g.len ≤ ge.guard → q.status ≠ .confirmed → Room 1 s → answers
      (jammed ⟨.gate, none, some ge.node, nodeZone s.pms ge.node, some (g.len * 100 : Nat), some (ge.guard * 100 : Nat), s.sys.now⟩
        (nodeAreas s.pms ge.node) (setGate k { q with faulted := true } u)))) ∧
  ∀ j k, stationOfNode s.pms g.dst = some j → bare → (stationOfNode s.pms dest).getD j = k → 1 ≤ k → k ≤ s.xlm.stations.length →
    let q := stationAt s k
    let bin := if stationOfNode s.pms dest = some k then (s.pms.node? dest).bind (·.localNo) else none
    let gone : State := noticed [.station k .lost (.lost true)]
      { setStation k { q with link := .lost, retry := 0, miss := 0, handOffs := [] } u with
        clm := { s.clm with due := stationDue s k } }
    (q.handOffs.length < 4 →
      answers (setStation k { q with handOffs := q.handOffs ++ [⟨n, part, bin⟩] }
        (joined { r with handOff := true } (handedSets part a.job sets)))) ∧
    (4 ≤ q.handOffs.length → q.link = .online → stationInUse u k = true → Room 2 s → answers
      (jammed ⟨.linkLost, none, none, none, some (k : Int), none, s.sys.now⟩ (linkAreas s.pms k) gone))

/-! ## The checks of ARM (R17) -/

/-- One line of R17's table at one entry: the table, the entry's index, the code value, and the condition. -/
structure ArmCheck where
  table : Nat
  index : Nat
  code : Nat
  holds : Prop

/-- The segment of the step at place `k`, from 0, of a list of steps. -/
def segAt (m : MapStore) (steps : List Nat) (k : Nat) : Option SegEntry := steps[k]?.bind m.seg?

/-- The last step ends at a DEST node with the purge-bin flag. -/
def EndsAtBin (m : MapStore) (steps : List Nat) : Prop :=
  ∃ a x, segAt m steps (steps.length - 1) = some a ∧ m.node? a.dst = some x ∧ x.kind = .dest ∧ x.purgeBin = some true

def armNodes (m : MapStore) (n : Nat) (e : NodeEntry) : List ArmCheck :=
  [ ⟨1, n, 2, m.area? e.area ≠ none⟩,
    ⟨1, n, 3, e.kind = .sensor → ∃ i q, m.seg? i = some q ∧ q.dst = n⟩ ]

def armSegs (m : MapStore) (i : Nat) (e : SegEntry) : List ArmCheck :=
  [ ⟨2, i, 2, m.node? e.src ≠ none ∧ m.node? e.dst ≠ none ∧ m.zone? e.zone ≠ none ∧ m.area? e.area ≠ none⟩,
    ⟨2, i, 4, ∀ j q, j < i → m.seg? j = some q → q.dst = e.dst → q.zone = e.zone⟩,
    ⟨2, i, 5, (e.kind = .remote → stationOfNode m e.dst ≠ none) ∧ (nodeKind m e.dst = some .remote → e.kind = .remote)⟩ ] ++
  match e.purgeRoute with
  | none => []
  | some p =>
    [ ⟨2, i, 2, m.route? p ≠ none⟩,
      ⟨2, i, 6, ∃ x, m.route? p = some x ∧ x.purge = true⟩,
      ⟨2, i, 7, EndsAtBin m (routeSteps m p)⟩,
      ⟨2, i, 8, i ∈ routeSteps m p⟩ ]

def armRoutes (m : MapStore) (r : Nat) (e : RouteEntry) : List ArmCheck :=
  [ ⟨3, r, 2, ∀ i ∈ e.steps, m.seg? i ≠ none⟩,
    ⟨3, r, 9, (∃ a, segAt m e.steps 0 = some a ∧ a.kind = .feed) ∧ ∀ k a, segAt m e.steps (k + 1) = some a → a.kind ≠ .feed⟩,
    ⟨3, r, 10, ∀ k a b, segAt m e.steps k = some a → segAt m e.steps (k + 1) = some b →
      b.src = if a.kind = .reverse then a.src else a.dst⟩,
    ⟨3, r, 11, (∃ a, segAt m e.steps (e.steps.length - 1) = some a ∧ nodeKind m a.dst = some .dest) ∧
      ∀ k a, k + 1 < e.steps.length → segAt m e.steps k = some a → nodeKind m a.dst ≠ some .dest⟩,
    ⟨3, r, 7, e.purge = true ↔ EndsAtBin m e.steps⟩,
    ⟨3, r, 12, ∀ k a b i g q, segAt m e.steps k = some a → e.steps[k + 1]? = some i → m.seg? i = some b → m.gate? g = some q →
      q.node = a.dst → i = q.seg0 ∨ i = q.seg1⟩,
    ⟨3, r, 13, ∀ a, segAt m e.steps (e.steps.length - 1) = some a → a.kind ≠ .reverse⟩,
    ⟨3, r, 14, transferCount m e.steps ≤ 2⟩ ]

def armGates (m : MapStore) (g : Nat) (e : GateEntry) : List ArmCheck :=
  [ ⟨6, g, 2, m.node? e.node ≠ none ∧ m.seg? e.seg0 ≠ none ∧ m.seg? e.seg1 ≠ none⟩,
    ⟨6, g, 12, ∃ a b, m.seg? e.seg0 = some a ∧ m.seg? e.seg1 = some b ∧ a.src = e.node ∧ b.src = e.node⟩ ]

/-- R17's table over a map: the tables in order, the defined entries of each in index order, the checks of each entry in the table's
order, each with its condition in the rule's words. -/
def armTable (m : MapStore) : List ArmCheck :=
  [⟨0, 0, 1, m.params ≠ none⟩] ++
  (definedEntries m.nodes).flatMap (fun (n, e) => armNodes m n e) ++
  (definedEntries m.segs).flatMap (fun (i, e) => armSegs m i e) ++
  (definedEntries m.routes).flatMap (fun (r, e) => armRoutes m r e) ++
  (definedEntries m.gates).flatMap (fun (g, e) => armGates m g e) ++
  [⟨7, 0, 1, m.media? 0 ≠ none⟩]

/-! ## The plan (R105 to R111) -/

/-- A side that the route does not image, or that has not started. -/
def NotStarted (o : Option Imaging) : Prop := o = none ∨ o = some .notStarted

/-- A side that the route does not image, or that is DONE. -/
def Imaged (o : Option Imaging) : Prop := o = none ∨ o = some .done

/-- RETAIN-capable (R108). -/
def RetainCapable (s : State) (r : Record) : Prop :=
  let under (p : SegEntry → Prop) : Prop := ∀ i ∈ bodySteps s.pms r, ∀ g, s.pms.seg? i = some g → p g
  under (fun g => g.retainOk = true) ∧
    ((NotStarted r.sideA ∧ NotStarted r.sideB) ∨
      (under (fun g => g.loop = true) ∧ r.sideA = some .done ∧ r.sideB = some .notStarted))

/-- No REVERSE step and no segment in a jam area (R109). -/
def RunsFree (s : State) (steps : List Nat) : Prop :=
  ∀ i ∈ steps, ∀ g, s.pms.seg? i = some g → g.area ∉ s.rcv.jam.areas ∧ g.kind ≠ .reverse

/-- The sets that pass 0 discards, in creation order: their compile area is a jam area, and something is compiled (R150). -/
def discardedSets (s : State) : List SetEntry :=
  s.xlm.sets.filter fun e => decide (0 < e.compiled) && s.rcv.jam.areas.any fun a => nodeArea s.pms e.dest == some a

def Spoiled (s : State) (e : SetEntry) : Prop := e ∈ discardedSets s

/-- The run-out path of a record on a path of its own (R105). -/
def runOutOf (r : Record) (steps : List Nat) : List Nat := steps.drop (r.trailStep - 1)

/-- DELIVER-capable but for the bodies of other records (R109). -/
structure DeliverCapable (s : State) (r : Record) : Prop where
  sides : Imaged r.sideA ∧ Imaged r.sideB
  free : RunsFree s (runOutOf r (pathOf s.pms r))
  dest : ∀ k, stationOfNode s.pms (routeDest s.pms r.route) = some k → (stationAt s k).link = .online
  gates : gatesAvailable s (pathOf s.pms r) r.lead.step = true
  set : ∀ p e, r.setPart = some p → Spoiled s e → ¬(e.slot = p.slot ∧ e.job = r.job ∧ e.number = p.number)

/-- PURGE-capable by join `j` but for the bodies of other records (R109). -/
structure PurgeCapable (s : State) (r : Record) (j : PurgeJoin) : Prop where
  join : joinOf s.pms r = some j
  free : RunsFree s (runOutOf r (joinedPath s.pms r j))
  gates : gatesAvailable s (joinedPath s.pms r j) r.lead.step = true

/-- Pass 1 forces REMOVE: the first cause names the record, or its body touches a jam area (R107). -/
def Forced (s : State) (r : Record) : Prop :=
  (∃ c, s.rcv.jam.first = some c ∧ c.sheet = some r.sheet) ∨ ∃ a ∈ s.rcv.jam.areas, a ∈ bodyAreas s.pms r

/-- No mark of its stream reaches the record (R106, R110): its stream is unordered, or holds no other record and no discarded set
that begins before it. -/
def StreamFree (s : State) (r : Record) : Prop :=
  r.unordered = true ∨
    ((∀ q ∈ s.flt.list, q.sheet ≠ r.sheet → streamOf s.pms q ≠ streamOf s.pms r) ∧
      ∀ e, Spoiled s e → (e.job, e.dest) = streamOf s.pms r → r.ordinal ≤ e.firstOrd)

/-- No body of another record lies on a segment, or in a zone, of some steps. -/
def BodiesApart (s : State) (r : Record) (steps : List Nat) : Prop :=
  ∀ q ∈ s.flt.list, q.sheet ≠ r.sheet → ∀ i ∈ steps, ∀ k ∈ bodySteps s.pms q,
    i ≠ k ∧ ∀ g h, s.pms.seg? i = some g → s.pms.seg? k = some h → g.zone ≠ h.zone

/-- What the plan of a state gives its records; `plan` is what it writes, and `join` the purge join of a PURGE record. -/
structure Chosen (s : State) (plan : Record → Option Disp) (join : Record → Option PurgeJoin) (r : Record) : Prop where
  /-- R107 -/
  forced : Forced s r → plan r = some .remove
  /-- R108 -/
  retains : plan r = some .retain → RetainCapable s r
  /-- R109 -/
  delivers : plan r = some .deliver → DeliverCapable s r
  /-- R109, R112 -/
  purges : plan r = some .purge → ∃ j, join r = some j ∧ PurgeCapable s r j
  /-- R110: a break of an ordered stream, by a record that goes, a VOIDED one or a discarded set, keeps the later ones from RETAIN
  and DELIVER -/
  breaks : r.unordered = false → plan r = some .retain ∨ plan r = some .deliver →
    (∀ q ∈ s.flt.list, q.unordered = false → streamOf s.pms q = streamOf s.pms r → q.ordinal < r.ordinal →
      q.progress ≠ .announced ∧ plan q ≠ some .remove ∧ plan q ≠ some .purge) ∧
    ∀ e, Spoiled s e → (e.job, e.dest) = streamOf s.pms r → r.ordinal ≤ e.firstOrd
  /-- R110: a retained record keeps the later ones of its ordered stream from DELIVER -/
  waits : r.unordered = false → plan r = some .deliver → ∀ q ∈ s.flt.list, q.unordered = false →
    streamOf s.pms q = streamOf s.pms r → q.ordinal < r.ordinal → plan q ≠ some .retain
  /-- R111: no sheet that must not move lies on a run-out path, and none that is retained in a zone of one -/
  clears : ∀ steps, (plan r = some .deliver ∧ steps = pathOf s.pms r) ∨
      (plan r = some .purge ∧ ∃ j, join r = some j ∧ steps = joinedPath s.pms r j) →
    ∀ q ∈ s.flt.list, q.sheet ≠ r.sheet → plan q = some .retain ∨ plan q = some .remove →
      ∀ i ∈ runOutOf r steps, ∀ k ∈ bodySteps s.pms q,
        i ≠ k ∧ (plan q = some .retain → ∀ g h, s.pms.seg? i = some g → s.pms.seg? k = some h → g.zone ≠ h.zone)
  /-- R110: with no mark upon it, a RETAIN-capable record is retained, whatever the others do -/
  prefers : ¬Forced s r → StreamFree s r → RetainCapable s r → plan r = some .retain
  /-- R110: the order of choice, of a record with no mark upon it and no other body in its way -/
  chooses : ¬Forced s r → StreamFree s r → ¬RetainCapable s r → BodiesApart s r (runOutOf r (pathOf s.pms r)) →
    (∀ j, joinOf s.pms r = some j → BodiesApart s r (runOutOf r (joinedPath s.pms r j))) →
    (DeliverCapable s r → plan r = some .deliver) ∧
    (¬DeliverCapable s r → ∀ j, PurgeCapable s r j → plan r = some .purge) ∧
    (¬DeliverCapable s r → (∀ j, ¬PurgeCapable s r j) → plan r = some .remove)

/-! ## Map entries -/

/-- The fields of a node entry stand in their ranges and are there for its kind (R6). -/
structure NodeEntry.Valid (e : NodeEntry) : Prop where
  area : e.area ≤ 11
  line : (e.line.isSome = true ↔ e.kind = .sensor) ∧ ∀ x ∈ e.line, x ≤ 23
  clearLevel : (e.clearLevel.isSome = true ↔ e.kind = .sensor) ∧ ∀ x ∈ e.clearLevel, x ≤ 1023
  measure : e.measure.isSome = true ↔ e.kind = .sensor
  purgeBin : e.purgeBin.isSome = true ↔ e.kind = .dest
  station : (e.kind = .remote → e.station.isSome = true) ∧ (e.station.isSome = true → e.kind = .remote ∨ e.kind = .dest) ∧
    ∀ x ∈ e.station, 1 ≤ x ∧ x ≤ 3
  localNo : e.localNo.isSome = e.station.isSome ∧ ∀ x ∈ e.localNo, x ≤ 7
  bin : e.kind = .dest → e.station.isSome = true → e.purgeBin = some false

/-- The fields of a segment entry stand in their ranges (R8). -/
structure SegEntry.Valid (e : SegEntry) : Prop where
  ends : e.src ≤ 31 ∧ e.dst ≤ 31 ∧ e.src ≠ e.dst
  len : 10 ≤ e.len ∧ e.len ≤ 20000
  place : e.zone ≤ 7 ∧ e.area ≤ 11
  window : e.early ≤ 500 ∧ e.late ≤ 500 ∧ e.margin ≤ 255
  purge : ∀ p ∈ e.purgeRoute, p ≤ 15

/-- The fields of a route entry stand in their ranges (R10). -/
structure RouteEntry.Valid (e : RouteEntry) : Prop where
  count : 1 ≤ e.steps.length ∧ e.steps.length ≤ 20
  steps : ∀ i ∈ e.steps, i ≤ 47

/-- The fields of an area entry stand in their ranges (R13). -/
def AreaEntry.Valid (e : AreaEntry) : Prop :=
  e.rank ≤ 15 ∧
  match e.source with
  | .line l => l ≤ 7
  | .station k c => 1 ≤ k ∧ k ≤ 3 ∧ c ≤ 3
  | .none => True

/-- The fields of a zone entry stand in their ranges (R14). -/
structure ZoneEntry.Valid (e : ZoneEntry) : Prop where
  vmax : 20 ≤ e.vmax ∧ e.vmax ≤ 1500
  vnom : 20 ≤ e.vnom ∧ e.vnom ≤ e.vmax
  vfs : e.vmax ≤ e.vfs ∧ e.vfs ≤ 3000
  pitch : 1 ≤ e.pitch ∧ e.pitch ≤ 2000
  stall : 10 ≤ e.stallTime ∧ e.stallTime ≤ 500

/-- The fields of a gate entry stand in their ranges (R15). -/
structure GateEntry.Valid (e : GateEntry) : Prop where
  node : e.node ≤ 31
  segs : e.seg0 ≤ 47 ∧ e.seg1 ≤ 47 ∧ e.seg0 ≠ e.seg1
  times : 5 ≤ e.switchTime ∧ e.switchTime ≤ 200 ∧ e.guard ≤ 500
  lines : e.outLine ≤ 5 ∧ e.fbLine ≤ 5

/-- The fields of a media entry stand in their ranges (R16). -/
structure MediaEntry.Valid (e : MediaEntry) : Prop where
  length : 500 ≤ e.length ∧ e.length ≤ 20000
  tolerance : e.tolerance ≤ 100
  doubleMargin : 50 ≤ e.doubleMargin ∧ e.doubleMargin ≤ 2000
  slip : e.slip ≤ 200

/-- Two node entries that may not stand in one table (R6): an input line named twice, or a station and local number named twice by
REMOTE nodes or by station destinations. -/
def NodeEntry.Clash (a b : NodeEntry) : Prop :=
  a.kind = b.kind ∧
  ((a.kind = .sensor ∧ a.line = b.line) ∨
    ((a.kind = .remote ∨ (a.kind = .dest ∧ a.station.isSome = true)) ∧ a.station = b.station ∧ a.localNo = b.localNo))

/-- Two gate entries that may not stand in one table (R15). -/
def GateEntry.Clash (a b : GateEntry) : Prop := a.node = b.node ∨ a.outLine = b.outLine ∨ a.fbLine = b.fbLine

/-- Entry `j` of a table clashes with another entry of it. -/
def Clashes {α : Type} (clash : α → α → Prop) (t : List (Option α)) (j : Nat) : Prop :=
  ∃ a b k, k ≠ j ∧ entryAt t j = some a ∧ entryAt t k = some b ∧ clash a b

/-- A list with `new` in place of what stood from place `i` on. -/
def overwritten {α : Type} (i : Nat) (new old : List α) : List α := old.take i ++ new ++ old.drop (i + new.length)

/-! ## Invariants -/

/-- The eight tables keep their sizes (R1). -/
structure MapStore.Sized (m : MapStore) : Prop where
  nodes : m.nodes.length = 32
  segs : m.segs.length = 48
  routes : m.routes.length = 16
  areas : m.areas.length = 12
  zones : m.zones.length = 8
  gates : m.gates.length = 6
  media : m.media.length = 16

/-- The input pins keep their number (00_scope.md, "Pins and electrical summary"). -/
structure Pins.Sized (p : Pins) : Prop where
  sensors : p.sensors.length = 24
  covers : p.covers.length = 8
  feedback : p.feedback.length = 6
  presence : p.presence.length = 3

/-- The enable sets hold the ten sources at most, and HALT's set holds its four forced ones (R185, R186). -/
structure Enabled (h a x : Nat) : Prop where
  halt : h < 1024
  attn : a < 1024
  aux : x < 1024
  forced : h &&& 0x00F = 0x00F

/-- No store of the part holds more than its capacity (R49, R145, R133, R155, R183), no two records share a sheet number (R52), its
banks keep their sizes (R1, R31 to R34, R42, R121, R153, R167), the enable sets hold what they may (R185, R186), and between two
steps no REPRINT notice is owed (R137) and no FLT event is underway (log 74). -/
structure Within (s : State) : Prop where
  map : s.pms.Sized
  pins : s.pins.Sized
  enables : Enabled s.clk.enHalt s.clk.enAttn s.clk.enAux
  covers : s.sfe.covers.length = 8
  coverCount : s.sfe.coverCount.length = 8
  feedback : s.sfe.feedback.length = 6
  feedbackRun : s.sfe.feedbackRun.length = 6
  stationCovers : ∀ q ∈ s.xlm.stations, q.covers.length = 4
  records : s.flt.list.length ≤ 24
  distinct : (s.flt.list.map (·.sheet)).Nodup
  sets : s.xlm.sets.length ≤ 8
  entries : s.rpq.queue.length ≤ 64
  notices : s.clk.notices.length ≤ 32
  handOffs : ∀ q ∈ s.xlm.stations, q.handOffs.length ≤ 4
  cancels : ∀ q ∈ s.xlm.stations, q.cancels.length ≤ 8
  nodes : s.sfe.nodes.length = 32
  zones : s.zdu.zones.length = 8
  gates : s.zdu.gates.length = 6
  areas : s.clm.areas.length = 12
  stations : s.xlm.stations.length = 3
  rows : s.spm.rows.length = 64
  owed : s.rpq.touched = false
  ended : s.rcv.moment.underway = false

/-- Path states in which every record carries a disposition (R112). -/
def planned? : PathState → Bool
  | .runout | .clearing | .resumable => true
  | .config | .armed | .running | .halting => false

/-- Path states in which every zone is held at 0 (R37). -/
def held? : PathState → Bool
  | .halting | .clearing | .resumable => true
  | .config | .armed | .running | .runout => false

/-- Path states in which the flight list is empty (R49, R97). -/
def empty? : PathState → Bool
  | .config | .armed => true
  | .running | .halting | .runout | .clearing | .resumable => false

/-- What the path state says of the rest of the part (R97, R112, R122, R37, R17). -/
structure Governed (s : State) : Prop where
  /-- no record carries a disposition outside RUNOUT, CLEARING and RESUMABLE, and in those three every record does -/
  dispositions : ∀ r ∈ s.flt.list, r.disp.isSome = planned? s.rcv.path
  /-- the flight list is empty in CONFIG and ARMED -/
  empty : empty? s.rcv.path = true → s.flt.list = []
  /-- the clearance list is empty outside CLEARING -/
  listed : s.rcv.path ≠ .clearing → s.clm.list = []
  /-- every zone stands at speed and duty 0 in HALTING, CLEARING and RESUMABLE -/
  stopped : held? s.rcv.path = true → ∀ q ∈ s.zdu.zones, q.speed = 0 ∧ q.duty = 0
  /-- the gate test of ARM runs in CONFIG only -/
  tested : s.zdu.armTest.isSome = true → s.rcv.path = .config

/-- A command that may replace rows of the snapshot area (R167). -/
def writesRows : Instr → Bool
  | .rowWriteEnd | .brownOut | .externalReset => true
  | _ => false

end Sys2Proof.Machine
end

