-- ==== Sys2Proof/Certificates/Slice0/Obligations.lean ====
section
/-! DEFINITION. The statements about the Lodrin 7420 for the provers. -/

open Sys2Proof Sys2Proof.Machine

/-! ## Steps, reset and start -/

/-- A step takes the command at the front of the queue and performs it on the state with the queue's rest. The queue is the
model's (log 4). -/
def Obligations.StepRunsFront : Prop :=
  ∀ (c : Instr) (rest : List Instr) (s : State),
    step { s with pending := c :: rest } = exec c { s with pending := rest }

/-- With no command waiting: a part held in reset stands still; in HALTING with the standstill indication true (R38: every
speed 0 and 20 ms with no counted edge, which no drive restarts, log 72), STANDSTILL is the next command (R104, "at once");
and with nothing due, a millisecond of the timebase passes. It moves the time, the quiet time (R38), the windows' budgets and
elapsed counts of zones commanded to move (R76, R88), the edge age of those zones (R41), the switch timer of each gate that
is MOVING and not expired (R43), the check timer of each CHECKING area (R125), the retry timer of each LOST station and the
slot clock (R154), the warning or the recovery timer (R164, R165) and the row write (R167); and it queues STALL,
GATE_SWITCH_TIMEOUT, AREA_CHECK, the windows' events (R79, R82, R85, R90), POLL_SLOT, POLL_MISS, SUPPLY_WARN, SUPPLY_NORMAL
and ROW_WRITE_END exactly where it completes their time. The moment of a second failure ends (log 74). Neither the map, the
path state, the jam record, the reprint queue, the sets, the rows, the notices nor a zone's drive or travel changes. Ticks on
an empty queue are the model's choice (log 1); records are named by their sheet numbers. -/
def Obligations.IdleBringsTime : Prop :=
  ∀ s : State, s.pending = [] →
    (s.sys.live = false → step s = .next s) ∧
    (s.sys.live = true → s.rcv.path = .halting → (∀ q ∈ s.zdu.zones, q.speed = 0) → 20 ≤ s.zdu.quiet →
      ∃ rest, step s = .next { s with pending := .standstill :: rest }) ∧
    (s.sys.live = true → dueNow s = [] → ∃ t, step s = .next t ∧ t.sys = { s.sys with now := s.sys.now + 1 } ∧
      t.pms = s.pms ∧ t.rcv = { s.rcv with moment := .none } ∧ t.rpq = s.rpq ∧ t.spm.rows = s.spm.rows ∧
      t.clk.notices = s.clk.notices ∧ t.pins = s.pins ∧ t.xlm.sets = s.xlm.sets ∧ t.xlm.exchange = s.xlm.exchange ∧ t.zdu.quiet = min (s.zdu.quiet + 1) 20 ∧
      ((s.flt.list.map (·.sheet)).Nodup →
        t.flt = { s.flt with list := s.flt.list.map fun r =>
          { r with leadExp := r.leadExp.map (agedLead s), trailExp := r.trailExp.map (agedTrail s) } } ∧
        ∀ r ∈ s.flt.list,
          let out (k : LeadKind) : Prop := Watched s r ∧ ∃ e, r.leadExp = some e ∧ e.kind = k ∧ speedOf s e.zone ≠ 0 ∧
            (agedLead s e).budget = some 0
          (.lateTime r.sheet ∈ t.pending ↔ out .travel) ∧ (.repick r.sheet ∈ t.pending ↔ out .pick ∧ r.repick = 0) ∧
          (.misfeed r.sheet ∈ t.pending ↔ out .pick ∧ r.repick ≠ 0) ∧
          (.stay r.sheet ∈ t.pending ↔ Watched s r ∧ ∃ e, r.trailExp = some e ∧ speedOf s e.zone ≠ 0 ∧
            (agedTrail s e).budget = some 0) ∧
          (.remoteLate r.sheet ∈ t.pending ↔ Watched s r ∧ ∃ e early late, r.leadExp = some e ∧ e.kind = .remote ∧
            e.times = some (early, late) ∧
            late + 3 * (s.xlm.stations.countP fun q => q.link != .absent) + 2 < (agedLead s e).elapsed)) ∧
      (∀ z < 8, ∀ e, s.pms.zone? z = some e → z < s.zdu.zones.length →
        let q := zoneAt s z
        let age := if q.speed = 0 then q.age else min (q.age + 1) 65535
        zoneAt t z = { q with age := age } ∧
          (.stall z ∈ t.pending ↔ q.speed ≠ 0 ∧ q.stallMark = false ∧ e.stallTime ≤ age)) ∧
      (∀ z, s.pms.zone? z = none → zoneAt t z = zoneAt s z) ∧
      (∀ g < 6, ∀ e, s.pms.gate? g = some e → g < s.zdu.gates.length →
        let q := gateAt s g
        let on := q.status = .moving ∧ q.expired = false
        (on → gateAt t g = { q with timer := min (q.timer + 1) e.switchTime }) ∧ (¬on → gateAt t g = q) ∧
          (.gateSwitchTimeout g ∈ t.pending ↔ on ∧ e.switchTime ≤ q.timer + 1)) ∧
      (∀ a < 12, a < s.clm.areas.length →
        let q := areaAt s a
        (q.status = .checking → areaAt t a = { q with timer := min (q.timer + 1) 300 }) ∧ (q.status ≠ .checking → areaAt t a = q) ∧
          (.areaCheck a ∈ t.pending ↔ q.status = .checking ∧ 300 ≤ q.timer + 1)) ∧
      (∀ k, 1 ≤ k → k ≤ 3 → s.xlm.stations.length = 3 →
        let q := stationAt s k
        stationAt t k = { q with
          retry := if q.link = .lost then min (q.retry + 1) 100 else q.retry
          presenceCount := (stationAt t k).presenceCount }) ∧
      t.xlm.slot = min (s.xlm.slot + 1) 3 ∧ (.pollSlot ∈ t.pending ↔ 3 ≤ s.xlm.slot + 1) ∧
      (.pollMiss ∈ t.pending ↔ 3 ≤ s.xlm.slot + 1 ∧ s.xlm.exchange ≠ none) ∧
      (let low := s.pins.supplyLow
        let warning := if low then s.spm.warnTimer + 1 else 0
        let recovering := if low then 0 else s.spm.recTimer + 1
        (s.spm.warn = false → t.spm.recTimer = s.spm.recTimer ∧ t.spm.warnTimer = (if 2 ≤ warning then 0 else warning) ∧
          (.supplyWarn ∈ t.pending ↔ 2 ≤ warning) ∧ .supplyNormal ∉ t.pending) ∧
        (s.spm.warn = true → t.spm.warnTimer = s.spm.warnTimer ∧ t.spm.recTimer = (if 50 ≤ recovering then 0 else recovering) ∧
          (.supplyNormal ∈ t.pending ↔ 50 ≤ recovering) ∧ .supplyWarn ∉ t.pending)) ∧
      t.spm.warn = s.spm.warn ∧ t.spm.ops = s.spm.ops ∧
      (s.spm.ops = [] → t.spm.elapsed = s.spm.elapsed ∧ .rowWriteEnd ∉ t.pending) ∧
      (s.spm.ops ≠ [] → t.spm.elapsed = s.spm.elapsed + 10 ∧ (.rowWriteEnd ∈ t.pending ↔ 12 ≤ s.spm.elapsed + 10)))

/-- What reset leaves (R1, R18, R34, R42, R49, R93, R97, R121, R133, R145, R153, R164, R180, R183, R185). -/
def Obligations.ResetValues : Prop :=
  let s := State.reset
  s.rcv.path = .config ∧ s.rcv.jam.first = none ∧ s.rcv.jam.second = none ∧ s.rcv.jam.areas = [] ∧
  s.pms.params = none ∧ (∀ i, s.pms.node? i = none ∧ s.pms.seg? i = none ∧ s.pms.route? i = none ∧ s.pms.area? i = none ∧
    s.pms.zone? i = none ∧ s.pms.gate? i = none ∧ s.pms.media? i = none) ∧
  (∀ n, (nodeAt s n).baseline = none ∧ (nodeAt s n).level = .unset ∧ (nodeAt s n).health = .ok ∧ (nodeAt s n).run = 0) ∧
  (∀ z, (zoneAt s z).speed = 0 ∧ (zoneAt s z).dir = .forward ∧ (zoneAt s z).duty = 0 ∧ (zoneAt s z).travel = 0 ∧
    (zoneAt s z).stepErrors = 0) ∧
  (∀ g, (gateAt s g).cmd = none ∧ (gateAt s g).status = .undriven ∧ (gateAt s g).faulted = false) ∧
  s.flt.list = [] ∧ s.flt.counter = 1 ∧ (∀ a, (areaAt s a).status = .none) ∧ s.clm.list = [] ∧
  s.rpq.queue = [] ∧ s.rpq.incomplete = false ∧ s.rpq.abandoned = [] ∧ s.xlm.sets = [] ∧
  (∀ k, (stationAt s k).link = .absent ∧ (stationAt s k).handOffs = [] ∧ (stationAt s k).cancels = []) ∧
  s.spm.warn = false ∧ s.spm.warnTimer = 0 ∧ s.spm.recTimer = 0 ∧ s.clk.notices = [] ∧ s.clk.lost = false ∧
  s.clk.reply = .none ∧ s.clk.mark = none ∧ s.clk.enHalt = 0x00F ∧ s.clk.enAttn = 0x040 ∧ s.clk.enAux = 0x000

/-- BROWN_OUT and EXTERNAL_RESET (R166, R167, R173): from every state, started or held, every block is back at its values
after reset and the snapshot area stays, but for the row whose write is cut off, which is not whole. The model's: a held part
takes them too (log 3), and the last of several resets gives the kind (log 37); the pins (log 6) and the commands that wait
(log 4) stay. -/
def Obligations.HardResets : Prop :=
  ∀ (s : State) (c : Instr) (k : ResetKind),
    (c = .brownOut ∧ k = .brownOut) ∨ (c = .externalReset ∧ k = .external) →
    ∃ t, exec c s = .next t ∧
      t.pms = .reset ∧ t.sfe = .reset ∧ t.zdu.gates = Zdu.reset.gates ∧ t.zdu.armTest = none ∧ t.flt = .reset ∧ t.rcv = .reset ∧
      t.clm = .reset ∧ t.rpq = .reset ∧ t.xlm = .reset ∧ t.clk = .reset ∧
      t.sys.live = false ∧ t.sys.kind = k ∧ t.sys.resetWait = none ∧ t.pins = s.pins ∧ t.pending = s.pending ∧
      t.zdu.zones = s.zdu.zones.map (fun q => ZoneState.reset q.phase) ∧
      t.spm.warn = false ∧ t.spm.ops = [] ∧ t.spm.marker = false ∧ t.spm.pendingMark = false ∧
      (rowInProgress s.spm = none → t.spm.rows = s.spm.rows) ∧
      (∀ i, rowInProgress s.spm = some i →
        (∀ j, j ≠ i → t.spm.rows[j]? = s.spm.rows[j]?) ∧ ∀ r, t.spm.rows[i]? = some r → r.whole = false)

/-- START (R31, R32, R172, R173, R177): a held part takes the straps' rate, the first samples of covers and feedback and the
marker of row 0, names the reset's cause, and posts START as its first notice. The model's: a part that has started takes no
START (log 5); the cause, where the core supply was lost or several resets came, is read as log 37 says; and the break
detection begins armed when the receive pin is high (log 27). -/
def Obligations.StartTakesPins : Prop :=
  ∀ (s : State) (a b kept : Bool),
    (s.sys.live = true → exec (.start a b kept) s = .next s) ∧
    (s.sys.live = false → Room 1 s →
      let rate := if a = b then 0 else if b then 1 else 2
      let cause : ResetCause := match s.sys.kind, kept with
        | .brownOut, true => .brownOut
        | .request, true => .resetRequest
        | .linkBreak, true => .linkBreak
        | _, _ => .powerOn
      let complete := (rowAt s.spm 0).whole && (rowAt s.spm 0).bytes == List.replicate 16 0xA5
      let header := if complete then some (readHeader (rowAt s.spm 1).bytes) else none
      exec (.start a b kept) s = .next (noticed [.start cause rate header]
        { s with
          sfe := { s.sfe with covers := s.pins.covers, feedback := s.pins.feedback }
          spm := { s.spm with marker := complete, pendingMark := complete }
          clk := { s.clk with rate := rate, breakArmed := s.pins.rxHigh }
          sys := { s.sys with live := true, cause := cause } }))

/-! ## The command link -/

/-- IDENT changes nothing; its DONE reply carries the vendor code, the part number, the revision, the rate code and the
largest payload (R181). -/
def Obligations.IdentAnswers : Prop :=
  ∀ (tag : Byte) (s : State), Ready s →
    exec (.ident tag) s =
      .next (replied 0x41 tag .done false [0x0C, 0x47, 0x1C, 0xFC, 0x01, BitVec.ofNat 8 s.clk.rate, 0x78] (heard s))

/-- Decoding agrees with encoding (R178, R189, R190): the payload of every well-formed request parses to that request, with
every operand at every value its field admits, in at most 120 bytes. -/
def Obligations.RequestsParseBack : Prop :=
  ∀ (i : Instr) (kind tag : Byte) (payload : List Byte), i.wf = true → encodeRequest i = some (kind, tag, payload) →
    parseRequest kind tag payload = .ok i ∧ payload.length ≤ 120

/-- A request row is its frame (R177, R178, R180, R187; log 12): the characters of a well-formed request's frame, received in
any state, do what the request does, held in reset, deaf, or with a reply pending or a frame in progress too. -/
def Obligations.FramesAreRequests : Prop :=
  ∀ (i : Instr) (kind tag : Byte) (payload : List Byte) (s : State), i.wf = true → Settled s →
    encodeRequest i = some (kind, tag, payload) →
    exec (.requestFrame (frameChars kind tag payload)) s = exec i s

/-- REQUEST_FRAME and FRAME_GAP (R177, R178, R182, R190): a frame whose CRC byte is wrong is answered CHECK, one whose length
byte is above 120 LENGTH at that byte, one with a good CRC and a kind outside 0x01..0x12 KIND, one whose payload is not as
long as its request's fields LENGTH, and a QUERY of an item outside 1..12 FIELD. A frame in progress is answered CUT after
its tag when an address character or a gap cuts it, and dropped before it; the address character starts the next frame. In
each case nothing else changes. A gap with no frame in progress does nothing. -/
def Obligations.BadFramesRefused : Prop :=
  (∀ (kind tag : Byte) (payload : List Byte) (crc len : Byte) (s : State), Ready s →
    let start : List RxChar := [⟨true, true, kind⟩, ⟨true, false, tag⟩]
    let body (n : Byte) (c : Byte) : List RxChar := (n :: payload ++ [c]).map fun b => ⟨true, false, b⟩
    let n : Byte := BitVec.ofNat 8 payload.length
    (payload.length ≤ 120 → crc ≠ crc8 (kind :: tag :: n :: payload) →
      exec (.requestFrame (start ++ body n crc)) s = .next (replied (replyKind kind) tag .check false [] (heard s))) ∧
    (120 < len.toNat → exec (.requestFrame (start ++ [⟨true, false, len⟩])) s =
      .next (replied (replyKind kind) tag .length false [] (heard s))) ∧
    (payload.length ≤ 120 → (kind = 0 ∨ 0x12 < kind.toNat) →
      exec (.requestFrame (start ++ body n (crc8 (kind :: tag :: n :: payload)))) s =
        .next (replied (replyKind kind) tag .kind false [] (heard s))) ∧
    (let wrong : Prop :=
        (∃ want, (kind.toNat, want) ∈ [(0x01, 0), (0x02, 0), (0x04, 3), (0x05, 0), (0x06, 0), (0x07, 0), (0x08, 4), (0x09, 2),
          (0x0A, 6), (0x0B, 16), (0x0C, 0), (0x0D, 1), (0x0E, 1), (0x10, 3), (0x11, 0), (0x12, 0)] ∧ payload.length ≠ want) ∨
        (kind = 0x03 ∧ (payload.length < 3 ∨ ∃ t f c rest w, payload = t :: f :: c :: rest ∧
          [4, 9, 15, 22, 4, 10, 8, 7][t.toNat]? = some w ∧ rest.length ≠ c.toNat * w)) ∨
        (kind = 0x0F ∧ (payload = [] ∨ ∃ (item : Byte) (args : List Byte) (want : Nat), payload = item :: args ∧
          (item.toNat, want) ∈ [(1, 0), (2, 2), (3, 1), (4, 0), (5, 1), (6, 2), (7, 0), (8, 1), (9, 0), (10, 0), (11, 0), (12, 2)] ∧
          args.length ≠ want));
      payload.length ≤ 120 → wrong → exec (.requestFrame (start ++ body n (crc8 (kind :: tag :: n :: payload)))) s =
        .next (replied (replyKind kind) tag .length false [] (heard s))) ∧
    (∀ item args, payload.length ≤ 120 → kind = 0x0F → payload = item :: args → item = 0 ∨ 12 < item.toNat →
      exec (.requestFrame (start ++ body n (crc8 (kind :: tag :: n :: payload)))) s =
        .next (replied 0x4F tag .field false [] (heard s))) ∧
    (∀ (next : Byte) (part : List RxChar), part = start ∨ (len.toNat ≤ 120 ∧ payload.length ≤ len.toNat ∧
        part = start ++ (len :: payload).map fun b => ⟨true, false, b⟩) →
      let h := heard s
      exec (.requestFrame (part ++ [⟨true, true, next⟩])) s =
        .next (replied (replyKind kind) tag .cut false [] { h with clk := { h.clk with rx := ⟨true, [next], 0⟩ } }))) ∧
  ∀ s : State, s.sys.live = true → s.clk.deaf = false → s.clk.reply = .none → Settled s →
    (∀ kind tag rest, s.clk.rx.inFrame = true → s.clk.rx.bytes = kind :: tag :: rest →
      exec .frameGap s = .next (replied (replyKind kind) tag .cut false [] { s with clk := { s.clk with rx := .idle } })) ∧
    (s.clk.rx.inFrame = true → s.clk.rx.bytes.length < 2 → exec .frameGap s = .next { s with clk := { s.clk with rx := .idle } }) ∧
    (s.clk.rx.inFrame = false → exec .frameGap s = .next { s with clk := { s.clk with rx := .idle } })

/-- A pending reply (R180): the first frame that completes meanwhile is held in the mark and not performed, a further one is
dropped; nothing else changes but the link itself. TRANSMIT_END (R180, R183, R184), for a frame that is no RESET reply: the
next frame is the pending reply, and a frame held in the overrun mark becomes the next pending reply, REFUSED(OVERRUN), its
kind 0x7F for a kind outside 0x01..0x3F (log 61), whose beginning clears the mark; with no reply formed it is the oldest
notice, which leaves the queue and carries and clears LOST; with neither the transmitter is idle. -/
def Obligations.LinkTransmits : Prop :=
  (∀ (i : Instr) (kind tag : Byte) (payload : List Byte) (s : State), s.sys.live = true → s.clk.deaf = false →
    s.clk.rx.inFrame = false → s.clk.reply ≠ .none → encodeRequest i = some (kind, tag, payload) →
    (s.clk.mark = none →
      exec i s = .next { heard s with clk := { (heard s).clk with mark := some (kind, tag) } }) ∧
    (s.clk.mark ≠ none → exec i s = .next (heard s))) ∧
  ∀ s : State, s.sys.live = true → Settled s → (∀ f, s.clk.tx = some f → f.isReset = false) →
    (∀ r, s.clk.reply = .formed r → isResetReply r = false → r.status ≠ .overrun →
      exec .transmitEnd s = .next { s with clk := { s.clk with
        tx := some ⟨r.bytes, false⟩
        reply := match s.clk.mark with
          | some (k, t) => .formed ⟨replyKind k, t, .overrun, false, []⟩
          | none => .none } }) ∧
    (∀ r, s.clk.reply = .formed r → r.status = .overrun →
      exec .transmitEnd s = .next { s with clk := { s.clk with tx := some ⟨r.bytes, false⟩, reply := .none, mark := none } }) ∧
    (∀ n ns, (∀ r, s.clk.reply ≠ .formed r) → s.clk.notices = n :: ns →
      exec .transmitEnd s = .next { s with clk := { s.clk with
        tx := some ⟨n.bytes s.clk.lost, false⟩, notices := ns, lost := false } }) ∧
    ((∀ r, s.clk.reply ≠ .formed r) → s.clk.notices = [] →
      exec .transmitEnd s = .next { s with clk := { s.clk with tx := none } })

/-- RESET (R169, R170, R187) answers DONE and makes the receiver pass over every frame; the end of that reply makes the reset
due, which with nothing to snapshot and no row write under way takes effect at once: the part is held in reset, RESET_REQUEST
its kind, and the snapshot area keeps its rows. With records or sets held, a snapshot with trigger RESET_REQUEST starts,
unless one is being written, and the reset waits. LINK_BREAK (R169, R170, R188): before the line has been read high it does
nothing but lower the pin; after, the receiver passes over every frame and the reset is due: with records or sets held, a
snapshot with trigger LINK_BREAK starts and the reset waits; with neither and no row write under way, the part is held in
reset at once. That the break detection stands down until the reset is the model's (log 27), and so is that pins and waiting
commands stay (logs 6, 4). -/
def Obligations.LinkResets : Prop :=
  (∀ (tag : Byte) (s : State), Ready s →
    exec (.reset tag) s = .next (replied 0x42 tag .done false [] { heard s with clk := { (heard s).clk with deaf := true } })) ∧
  (∀ (f : TxFrame) (s : State), s.sys.live = true → s.clk.tx = some f → f.isReset = true → s.sys.resetWait = none →
    s.flt.list = [] → s.xlm.sets = [] → s.spm.ops = [] →
    ∃ t, exec .transmitEnd s = .next t ∧ t.sys.live = false ∧ t.sys.kind = .request ∧ t.rcv.path = .config ∧ t.pms = .reset ∧
      t.clk = .reset ∧ t.spm.rows = s.spm.rows ∧ t.pending = s.pending) ∧
  (∀ (f : TxFrame) (s : State), Awake s → s.clk.tx = some f → f.isReset = true → s.sys.resetWait = none →
    s.flt.list ≠ [] ∨ s.xlm.sets ≠ [] → s.spm.ops = [] ∨ writingSnapshot s.spm = true →
    ∃ t, exec .transmitEnd s = .next t ∧ t.sys = { s.sys with resetWait := some .resetRequest } ∧ t.clk.deaf = true ∧
      t.pms = s.pms ∧ t.zdu = s.zdu ∧ t.flt = s.flt ∧ t.rcv = s.rcv ∧ t.xlm = s.xlm ∧
      t.spm = if writingSnapshot s.spm = true then s.spm else { s.spm with
        marker := false
        elapsed := 0
        ops := [⟨.snapshot .resetRequest s.flt.list.length s.xlm.sets.length s.rpq.queue.length,
          snapshotWrites .resetRequest s⟩] }) ∧
  ∀ s : State, s.sys.live = true → Settled s → s.sys.resetWait = none →
    let low : State := { s with pins := { s.pins with rxHigh := false } }
    (s.clk.breakArmed = false → exec .linkBreak s = .next low) ∧
    (s.clk.breakArmed = true → s.flt.list = [] → s.xlm.sets = [] → s.spm.ops = [] →
      ∃ t, exec .linkBreak s = .next t ∧ t.sys.live = false ∧ t.sys.kind = .linkBreak ∧ t.rcv.path = .config ∧
        t.spm.rows = s.spm.rows ∧ t.pins = low.pins ∧ t.pending = s.pending) ∧
    (s.clk.breakArmed = true → s.flt.list ≠ [] ∨ s.xlm.sets ≠ [] → s.spm.ops = [] →
      exec .linkBreak s = .next { low with
        clk := { s.clk with breakArmed := false, breakCount := 0, deaf := true }
        sys := { s.sys with resetWait := some .linkBreak }
        spm := { s.spm with
          marker := false
          elapsed := 0
          ops := [⟨.snapshot .linkBreak s.flt.list.length s.xlm.sets.length s.rpq.queue.length,
            snapshotWrites .linkBreak s⟩] } })

/-- LINES and QUERY LINES (R185, R186): the line's enable set is replaced, HALT keeping its four forced sources, and the
reply gives the set as it stands and the line's level; a line above 2, a bit above bit 9, or NOTICE or SNAPSHOT asked for
HALT is FIELD. QUERY LINES gives the active sources, the three sets, the three levels and the debounced covers, and changes
nothing. The ten sources are active as R185's table says, a line is asserted while a source in its set is, and none is driven
in reset. That a level is 1 when asserted and a cover OPEN 0 and CLOSED 1 is the model's (log 15). -/
def Obligations.LinesSetEnables : Prop :=
  (∀ s : State,
    let bit (b : Nat) (active : Prop) : Prop := (sourceMask s).testBit b = true ↔ active
    sourceMask s < 1024 ∧ bit 0 (s.rcv.path = .config) ∧ bit 1 (s.rcv.path = .halting ∨ s.rcv.path = .runout) ∧
      bit 2 (s.rcv.path = .clearing) ∧ bit 3 (s.rcv.path = .resumable) ∧
      bit 4 (true ∈ s.sfe.covers ∨ ∃ q ∈ s.xlm.stations, true ∈ q.covers) ∧ bit 5 (s.spm.warn = true) ∧
      bit 6 (s.clk.notices ≠ []) ∧ bit 7 (∃ q ∈ s.xlm.stations, q.link = .lost) ∧
      bit 8 (∃ n e, s.pms.node? n = some e ∧ e.kind = .sensor ∧ (nodeAt s n).health ≠ .ok) ∧ bit 9 (s.spm.ops ≠ []) ∧
      ∀ v : Nat, asserted s v = true ↔ s.sys.live = true ∧ ∃ b, v.testBit b = true ∧ (sourceMask s).testBit b = true) ∧
  ∀ (tag : Byte) (line enable : Nat) (s : State), Ready s →
    let out (v : Nat) (c : Clk) : Host.Outcome State Fault Refusal :=
      let t : State := { heard s with clk := c }
      .next (replied 0x50 tag .done false (u16 v ++ flag8 (sourceMask s &&& v != 0)) t)
    let c := (heard s).clk
    (line = 0 → enable < 1024 → enable.testBit 6 = false → enable.testBit 9 = false →
      exec (.lines tag line enable) s = out (enable ||| 0x00F) { c with enHalt := enable ||| 0x00F }) ∧
    (line = 1 → enable < 1024 → exec (.lines tag line enable) s = out enable { c with enAttn := enable }) ∧
    (line = 2 → enable < 1024 → exec (.lines tag line enable) s = out enable { c with enAux := enable }) ∧
    (2 < line ∨ 1024 ≤ enable ∨ (line = 0 ∧ (enable.testBit 6 = true ∨ enable.testBit 9 = true)) →
      exec (.lines tag line enable) s = .next (replied 0x50 tag .field false [] (heard s))) ∧
    exec (.queryLines tag) s = .next (replied 0x4F tag .done false (u16 (sourceMask s) ++ u16 s.clk.enHalt ++ u16 s.clk.enAttn ++
      u16 s.clk.enAux ++ flag8 (sourceMask s &&& s.clk.enHalt != 0) ++ flag8 (sourceMask s &&& s.clk.enAttn != 0) ++
      flag8 (sourceMask s &&& s.clk.enAux != 0) ++ s.sfe.covers.flatMap (fun o => flag8 (!o))) (heard s))

/-! ## The path map -/

/-- MAP_PUT of the parameter entry (R4): a min gap above 2000 is FIELD with no CLAMPED flag and nothing written; otherwise
the cover threshold is clamped into 20..80 and then the clear threshold into the clamped cover threshold + 10..95, the
clamped values are stored, CLAMPED says whether a value was changed, and MAP_GET returns the stored values. -/
def Obligations.ParametersClamped : Prop :=
  ∀ (tag g1 g0 cv cl : Byte) (s : State), Ready s → s.rcv.path = .config →
    let gap := g1.toNat * 256 + g0.toNat
    let cover := min (max cv.toNat 20) 80
    let clear := min (max cl.toNat (cover + 10)) 95
    (2000 < gap → exec (.mapPut tag 0 0 1 [g1, g0, cv, cl]) s = .next (replied 0x43 tag .field false [0, 0] (heard s))) ∧
    (gap ≤ 2000 → exec (.mapPut tag 0 0 1 [g1, g0, cv, cl]) s =
      .next (replied 0x43 tag .done (decide (cover ≠ cv.toNat ∨ clear ≠ cl.toNat)) []
        { heard s with pms := { s.pms with params := some ⟨gap, cover, clear⟩ } })) ∧
    ∀ u : State, Ready u → u.pms.params = some ⟨gap, cover, clear⟩ →
      exec (.mapGet tag 0 0 1) u =
        .next (replied 0x44 tag .done false ([1, 1] ++ u16 gap ++ u8 cover ++ u8 clear) (heard u))

/-- MAP_PUT of one or more entries of a table (R2, R3, R6, R15, R18, R34, R42, R121, R189): entries whose fields stand in
their ranges, sent in their layout, replace the entries of their indices whole and no other, and a replaced node, area, zone
or gate stands at its values after reset. The entries of the node and gate tables must clash with no other entry of the table
that results. -/
def Obligations.MapPutReplacesEntries : Prop :=
  ∀ (tag : Byte) (i : Nat) (s : State), Ready s → s.rcv.path = .config → s.pms.Sized →
    let puts (table n : Nat) (body : List Byte) (t : State) : Prop :=
      exec (.mapPut tag table i n body) s = .next (replied 0x43 tag .done false [] t)
    let h := heard s
    (∀ es : List NodeEntry, es ≠ [] → i + es.length ≤ 32 → (∀ e ∈ es, e.Valid) →
      let t := overwritten i (es.map some) s.pms.nodes
      (∀ j, i ≤ j → j < i + es.length → ¬Clashes NodeEntry.Clash t j) → s.sfe.nodes.length = 32 →
      puts 1 es.length (es.flatMap encodeNode) { h with
        pms := { s.pms with nodes := t }
        sfe := { s.sfe with nodes := overwritten i (es.map fun _ => NodeState.reset) s.sfe.nodes } }) ∧
    (∀ es : List SegEntry, es ≠ [] → i + es.length ≤ 48 → (∀ e ∈ es, e.Valid) →
      puts 2 es.length (es.flatMap encodeSeg)
        { h with pms := { s.pms with segs := overwritten i (es.map some) s.pms.segs } }) ∧
    (∀ es : List RouteEntry, es ≠ [] → i + es.length ≤ 16 → (∀ e ∈ es, e.Valid) →
      puts 3 es.length (es.flatMap encodeRoute)
        { h with pms := { s.pms with routes := overwritten i (es.map some) s.pms.routes } }) ∧
    (∀ es : List AreaEntry, es ≠ [] → i + es.length ≤ 12 → (∀ e ∈ es, e.Valid) → s.clm.areas.length = 12 →
      puts 4 es.length (es.flatMap encodeArea) { h with
        pms := { s.pms with areas := overwritten i (es.map some) s.pms.areas }
        clm := { s.clm with areas := overwritten i (es.map fun _ => AreaState.reset) s.clm.areas } }) ∧
    (∀ es : List ZoneEntry, es ≠ [] → i + es.length ≤ 8 → (∀ e ∈ es, e.Valid) → s.zdu.zones.length = 8 →
      puts 5 es.length (es.flatMap encodeZone) { h with
        pms := { s.pms with zones := overwritten i (es.map some) s.pms.zones }
        zdu := { s.zdu with
          zones := overwritten i (((s.zdu.zones.drop i).take es.length).map fun q => ZoneState.reset q.phase) s.zdu.zones } }) ∧
    (∀ es : List GateEntry, es ≠ [] → i + es.length ≤ 6 → (∀ e ∈ es, e.Valid) →
      let t := overwritten i (es.map some) s.pms.gates
      (∀ j, i ≤ j → j < i + es.length → ¬Clashes GateEntry.Clash t j) → s.zdu.gates.length = 6 →
      puts 6 es.length (es.flatMap encodeGate) { h with
        pms := { s.pms with gates := t }
        zdu := { s.zdu with gates := overwritten i (es.map fun _ => GateState.reset) s.zdu.gates } }) ∧
    (∀ es : List MediaEntry, es ≠ [] → i + es.length ≤ 16 → (∀ e ∈ es, e.Valid) →
      puts 7 es.length (es.flatMap encodeMedia)
        { h with pms := { s.pms with media := overwritten i (es.map some) s.pms.media } })

/-- MAP_PUT refused (R2, R3, R6, R15), with nothing written: STATE outside CONFIG; FIELD with a table above 7 and the first
index; FIELD with the first index that does not exist when the request reaches past its table, its own first index when that
lies past it (log 42); FIELD with the index of the first entry that its layout does not read as a valid one, the entries
before it good, where refusing a route whose segment bytes beyond its step count are not 0xFF is the model's (log 41); and of
valid entries FIELD with the index of the first that clashes with another entry of the table that would result. That all
fields are read before the clashes, and the order of the range checks, is the model's (log 23). A count of 0 makes every
entry of its table undefined, which is DONE, the states of its nodes, areas, zones and gates as after reset. -/
def Obligations.MapPutRefused : Prop :=
  ∀ (tag : Byte) (s : State), Ready s →
    let field (table first count index : Nat) (body : List Byte) : Prop :=
      exec (.mapPut tag table first count body) s = .next (replied 0x43 tag .field false (u8 table ++ u8 index) (heard s))
    (∀ table first count body, s.rcv.path ≠ .config →
      exec (.mapPut tag table first count body) s = .next (replied 0x43 tag .state false [] (heard s))) ∧
    (s.rcv.path = .config →
      (∀ table first count body, 7 < table → field table first count first body) ∧
      (∀ table size first count body, [1, 32, 48, 16, 12, 8, 6, 16][table]? = some size → 0 < count → size < first + count →
        field table first count (if first < size then size else first) body) ∧
      (let bad {α : Type} (table size width : Nat) (valid : α → Prop) (encode : α → List Byte) : Prop :=
          ∀ (first k : Nat) (es : List α) (x rest : List Byte), (∀ e ∈ es, valid e) → x.length = width →
            (∀ e, valid e → encode e ≠ x) → first + (es.length + 1 + k) ≤ size →
            field table first (es.length + 1 + k) (first + es.length) (es.flatMap encode ++ x ++ rest);
        bad 1 32 9 NodeEntry.Valid encodeNode ∧ bad 2 48 15 SegEntry.Valid encodeSeg ∧ bad 3 16 22 RouteEntry.Valid encodeRoute ∧
        bad 4 12 4 AreaEntry.Valid encodeArea ∧ bad 5 8 10 ZoneEntry.Valid encodeZone ∧ bad 6 6 8 GateEntry.Valid encodeGate ∧
        bad 7 16 7 MediaEntry.Valid encodeMedia) ∧
      (∀ (i j : Nat) (es : List NodeEntry), s.pms.nodes.length = 32 → i + es.length ≤ 32 → (∀ e ∈ es, e.Valid) →
        let t := overwritten i (es.map some) s.pms.nodes
        i ≤ j → j < i + es.length → Clashes NodeEntry.Clash t j → (∀ k, i ≤ k → k < j → ¬Clashes NodeEntry.Clash t k) →
        field 1 i es.length j (es.flatMap encodeNode)) ∧
      (∀ (i j : Nat) (es : List GateEntry), s.pms.gates.length = 6 → i + es.length ≤ 6 → (∀ e ∈ es, e.Valid) →
        let t := overwritten i (es.map some) s.pms.gates
        i ≤ j → j < i + es.length → Clashes GateEntry.Clash t j → (∀ k, i ≤ k → k < j → ¬Clashes GateEntry.Clash t k) →
        field 6 i es.length j (es.flatMap encodeGate)) ∧
      (∀ first body, s.sfe.nodes.length = 32 → s.clm.areas.length = 12 → s.zdu.zones.length = 8 → s.zdu.gates.length = 6 →
        let clears (table : Nat) (t : State) : Prop :=
          exec (.mapPut tag table first 0 body) s = .next (replied 0x43 tag .done false [] t)
        let h := heard s
        clears 0 { h with pms := { s.pms with params := none } } ∧
        clears 1 { h with
          pms := { s.pms with nodes := s.pms.nodes.map fun _ => none }
          sfe := { s.sfe with nodes := s.sfe.nodes.map fun _ => NodeState.reset } } ∧
        clears 2 { h with pms := { s.pms with segs := s.pms.segs.map fun _ => none } } ∧
        clears 3 { h with pms := { s.pms with routes := s.pms.routes.map fun _ => none } } ∧
        clears 4 { h with
          pms := { s.pms with areas := s.pms.areas.map fun _ => none }
          clm := { s.clm with areas := s.clm.areas.map fun _ => AreaState.reset } } ∧
        clears 5 { h with
          pms := { s.pms with zones := s.pms.zones.map fun _ => none }
          zdu := { s.zdu with zones := s.zdu.zones.map fun q => ZoneState.reset q.phase } } ∧
        clears 6 { h with
          pms := { s.pms with gates := s.pms.gates.map fun _ => none }
          zdu := { s.zdu with gates := s.zdu.gates.map fun _ => GateState.reset } } ∧
        clears 7 { h with pms := { s.pms with media := s.pms.media.map fun _ => none } }))

/-- MAP_GET (R5, R189, R191): in every path state the entries of a table from the first index on, up to the count, the
table's end and what fits in one reply, come back, each with its defined mark and, when defined, its fields in its layout;
nothing changes. A table above 7, a first index past its table and a count of 0 are FIELD. -/
def Obligations.MapGetReads : Prop :=
  ∀ (tag : Byte) (i n : Nat) (s : State), Ready s →
    let marked {α : Type} (encode : α → List Byte) : Option α → List Byte := fun
      | some e => 1 :: encode e
      | none => [0]
    let gets {α : Type} (table size : Nat) (entries : List (Option α)) (encode : α → List Byte) : Prop :=
      i < size → 0 < n → exec (.mapGet tag table i n) s = .next (replied 0x44 tag .done false
        (list8 (fitting 117 (((entries.drop i).take n).map (marked encode)))) (heard s))
    gets 0 1 [s.pms.params] encodeParams ∧ gets 1 32 s.pms.nodes encodeNode ∧ gets 2 48 s.pms.segs encodeSeg ∧
    gets 3 16 s.pms.routes encodeRoute ∧ gets 4 12 s.pms.areas encodeArea ∧ gets 5 8 s.pms.zones encodeZone ∧
    gets 6 6 s.pms.gates encodeGate ∧ gets 7 16 s.pms.media encodeMedia ∧
    (∀ table, n = 0 ∨ 7 < table ∨ (∃ size, [1, 32, 48, 16, 12, 8, 6, 16][table]? = some size ∧ size ≤ i) →
      exec (.mapGet tag table i n) s = .next (replied 0x44 tag .field false [] (heard s)))

/-! ## Arming, disarming, calibrating -/

/-- ARM refused, or testing its gates (R17, R43, R46): outside CONFIG it is STATE; with a snapshot pending SNAPSHOT_PENDING;
with a map that fails a line of R17's table (`armTable`: tables 0 to 7, entries in index order, each entry's checks in the
table's order) it is MAP with the first such line's table, index and code value, and the part stays as it was. On a valid map
with gates the lowest gate is driven to position 1 or, when its reading shows 1 already, on to position 0; it is MOVING with
its timer at 0, the path stays CONFIG, and the reply waits. -/
def Obligations.ArmRefusedOrTests : Prop :=
  ∀ (tag : Byte) (s : State), Ready s →
    (s.rcv.path ≠ .config → exec (.arm tag) s = .next (replied 0x45 tag .state false [] (heard s))) ∧
    (s.rcv.path = .config → s.spm.pendingMark = true →
      exec (.arm tag) s = .next (replied 0x45 tag .snapshotPending false [] (heard s))) ∧
    (∀ pre c post, s.rcv.path = .config → s.spm.pendingMark = false → armTable s.pms = pre ++ c :: post →
      (∀ x ∈ pre, x.holds) → ¬c.holds →
      exec (.arm tag) s = .next (replied 0x45 tag .map false (u8 c.table ++ u8 c.index ++ u8 c.code) (heard s))) ∧
    ∀ g e rest, s.rcv.path = .config → s.spm.pendingMark = false → (∀ c ∈ armTable s.pms, c.holds) →
      definedEntries s.pms.gates = (g, e) :: rest → g < s.zdu.gates.length →
      let q := gateAt s g
      let start : State := { heard s with clk := { (heard s).clk with reply := .forming 0x05 tag } }
      exec (.arm tag) s = .next (if readingOf s e
        then setArmTest (some ⟨tag, g, false⟩)
          (setGate g { q with cmd := some false, status := .moving, timer := 0, expired := false, faulted := false } start)
        else setArmTest (some ⟨tag, g, true⟩)
          (setGate g { q with cmd := some true, status := .moving, timer := 0, expired := false } start))

/-- ARM on a valid map without gates (R17, R23, R27, R28, R92, R98): every SENSOR node takes its expected clear level as its
baseline, its health is judged by R27's table (`HealthTable`), each change noticed, and its level is read from its latest
sample; with every node off COVERED and every cover closed the path is ARMED and the zones as they were, otherwise it is
CLEARING with every zone at 0 and its first cause RESIDUAL, with the lowest covered node, its zone, its latest sample and its
clear level, or else COVER, with the areas of node and open covers. The map, the flight list, the reprint queue and the
stations stay. What the reply carries is the model's (logs 14, 15), and so is the order of the notices, by node (log 43). -/
def Obligations.ArmDecides : Prop :=
  ∀ (tag : Byte) (p : Params) (judge : Health → Setting → Nat → Health) (s : State), HealthTable judge → Ready s → s.rcv.path = .config → s.spm.pendingMark = false →
    (∀ c ∈ armTable s.pms, c.holds) → s.pms.params = some p → definedEntries s.pms.gates = [] → s.flt.list = [] →
    s.sfe.nodes.length = 32 → s.pms.nodes.length = 32 →
    let opened := (List.range 12).filter fun a => coverOf s a == some true
    ∃ t, exec (.arm tag) s = .next t ∧ t.pms = s.pms ∧ t.flt = s.flt ∧ t.rpq = s.rpq ∧ t.xlm = s.xlm ∧ t.pins = (heard s).pins ∧
      (∀ n e, s.pms.node? n = some e → e.kind = .sensor →
        let b := e.clearLevel.getD 0
        let h := judge (nodeAt s n).health .arm b
        (nodeAt t n).baseline = some b ∧ (nodeAt t n).health = h ∧ (nodeAt t n).run = 0 ∧
          ∀ x, (nodeAt s n).latest = some x → (nodeAt t n).level =
            if h = .failed then .unset else if b * p.clearPct / 100 < x then .clear else .covered) ∧
      (let told := (sensorNodes s.pms).filterMap fun x =>
          let b := x.2.clearLevel.getD 0
          sensorNotice s .arm x.1 b (judge (nodeAt s x.1).health .arm b)
       Room told.length s → (t.rcv.path = .armed → t.clk.notices = s.clk.notices ++ told) ∧
          s.clk.notices ++ told <+: t.clk.notices) ∧
      (t.rcv.path = .armed ↔
        (∀ n e, s.pms.node? n = some e → e.kind = .sensor → (nodeAt t n).level ≠ .covered) ∧ ∀ a < 12, coverOf s a ≠ some true) ∧
      (t.rcv.path = .armed → t.zdu.zones = s.zdu.zones ∧ t.rcv.jam = s.rcv.jam ∧
        t.clk.reply = .formed ⟨0x45, tag, .done, false, [1, 0xFF]⟩) ∧
      (t.rcv.path ≠ .armed → t.rcv.path = .clearing ∧ (∀ q ∈ t.zdu.zones, q.speed = 0 ∧ q.duty = 0) ∧ ∃ c,
        t.rcv.jam.first = some c ∧ t.clk.reply = .formed ⟨0x45, tag, .done, false, [5, BitVec.ofNat 8 c.cause.code]⟩ ∧
        (∀ n e pre post, sensorNodes s.pms = pre ++ (n, e) :: post → (∀ x ∈ pre, (nodeAt t x.1).level ≠ .covered) →
          (nodeAt t n).level = .covered → t.rcv.jam = ⟨some ⟨.residual, none, some n, nodeZone s.pms n,
            (nodeAt s n).latest.map (fun x => (x : Int)), some ((e.clearLevel.getD 0 * p.clearPct / 100 : Nat) : Int), s.sys.now⟩,
            none, unionAreas (nodeAreas s.pms n) opened⟩) ∧
        ((∀ n e, s.pms.node? n = some e → e.kind = .sensor → (nodeAt t n).level ≠ .covered) →
          t.rcv.jam = ⟨some ⟨.cover, none, none, none, none, none, s.sys.now⟩, none, opened⟩))

/-- DISARM (R99, R133): in ARMED, and in RESUMABLE with an empty list, every zone goes to speed and duty 0, the jam record
and the abandoned set are empty, and the path is CONFIG; gates, reprint entries and sets stay. Elsewhere it is STATE. -/
def Obligations.DisarmReturns : Prop :=
  ∀ (tag : Byte) (s : State), Ready s →
    (s.rcv.path = .armed ∨ (s.rcv.path = .resumable ∧ s.flt.list = []) →
      exec (.disarm tag) s = .next (replied 0x46 tag .done false []
        { heard s with
          zdu := { s.zdu with zones := s.zdu.zones.map fun q => { q with speed := 0, duty := 0, age := 0 } }
          rcv := { s.rcv with path := .config, jam := .empty }
          rpq := { s.rpq with abandoned := [] } })) ∧
    (s.rcv.path ≠ .armed → ¬(s.rcv.path = .resumable ∧ s.flt.list = []) →
      exec (.disarm tag) s = .next (replied 0x46 tag .state false [] (heard s)))

/-- CALIBRATE (R24): in CONFIG, and in CLEARING with every cover of a defined area closed, the sampling starts and the reply
waits, or with no SENSOR node is DONE with an empty list and a count of 0; elsewhere it is STATE. That this DONE comes at
once is the model's (log 34). CALIBRATE_END (R24, R27, R28): each SENSOR node of which twice the mean reaches its expected
clear level takes the mean as its baseline, its health judged by R27's table (`HealthTable`) and its level set from its
latest sample; every other node stays as it was but for that sample, and the DONE reply lists those and counts the first.
Each change of a health is noticed with the node, the healths, the baseline and the setting; the order, by node, is the
model's (log 43). Path, zones, gates, sets, stations and rows stay. Where a line's 16 samples were not all brought, the pin's
level stands for those that lack, the latest among them (log 34). Without a calibration nothing happens (log 5). -/
def Obligations.CalibrationMeasures : Prop :=
  (∀ (tag : Byte) (s : State), Ready s →
    let allowed := s.rcv.path = .config ∨ (s.rcv.path = .clearing ∧ allCoversClosed s = true)
    (allowed → sensorNodes s.pms = [] → exec (.calibrate tag) s = .next (replied 0x47 tag .done false [0, 0] (heard s))) ∧
    (allowed → sensorNodes s.pms ≠ [] → exec (.calibrate tag) s = .next { heard s with
      sfe := { s.sfe with calib := some ⟨tag, List.replicate 24 0, List.replicate 24 0, 0⟩ }
      clk := { (heard s).clk with reply := .forming 0x07 tag } }) ∧
    (¬allowed → exec (.calibrate tag) s = .next (replied 0x47 tag .state false [] (heard s)))) ∧
  ∀ s : State, s.sys.live = true → Settled s →
    (s.sfe.calib = none → exec .calibrateEnd s = .next s) ∧
    ∀ (c : Calibration) (p : Params) (judge : Health → Setting → Nat → Health), HealthTable judge → s.sfe.calib = some c → s.pms.params = some p → moving s = false → s.sfe.nodes.length = 32 →
      s.pms.nodes.length = 32 →
      let good (e : NodeEntry) : Bool := e.clearLevel.getD 0 ≤ 2 * meanOf s c (e.line.getD 0)
      ∃ t, exec .calibrateEnd s = .next t ∧ t.sfe.calib = none ∧ t.pms = s.pms ∧ t.zdu = s.zdu ∧ t.rcv = s.rcv ∧ t.rpq = s.rpq ∧
        t.xlm = s.xlm ∧ t.spm = s.spm ∧
        t.clk.reply = .formed ⟨0x47, c.tag, .done, false,
          list8 (((sensorNodes s.pms).filter fun x => !good x.2).map fun x => u8 x.1) ++
            u8 ((sensorNodes s.pms).countP fun x => good x.2)⟩ ∧
        (let told := (sensorNodes s.pms).filterMap fun x =>
            let b := meanOf s c (x.2.line.getD 0)
            if good x.2 then sensorNotice s .calibrate x.1 b (judge (nodeAt s x.1).health .calibrate b) else none
         s.flt.list = [] → Room told.length s → t.clk.notices = s.clk.notices ++ told) ∧
        ∀ n e, s.pms.node? n = some e → e.kind = .sensor →
          let line := e.line.getD 0
          let b := meanOf s c line
          let h := judge (nodeAt s n).health .calibrate b
          let short := (c.counts[line]?).getD 0 < 16
          (short → (nodeAt t n).latest = some ((s.pins.sensors[line]?).getD 0)) ∧
          (¬short → (nodeAt t n).latest = (nodeAt s n).latest) ∧
          (good e = false → nodeAt t n = { nodeAt s n with latest := (nodeAt t n).latest }) ∧
          (good e = true → (nodeAt t n).baseline = some b ∧ (nodeAt t n).health = h ∧
            ∀ x, (nodeAt t n).latest = some x → (nodeAt t n).level =
              if h = .failed then .unset else if b * p.clearPct / 100 < x then .clear else .covered)

/-! ## Zones and gates -/

/-- SPEED (R35, R36, R41, R76): in CONFIG, ARMED and RUNNING a defined zone takes the requested speed or its Vmax, the
direction, and the duty floor(speed × 1000 / Vfs); a new nonzero speed forms the budgets of the zone's windows afresh and no
other change touches a record; elsewhere it is STATE, and an undefined zone or another direction byte FIELD. GATE (R43, R47):
in CONFIG a defined gate takes position 0 or 1, CONFIRMED at once with FAULTED cleared when its reading shows it and MOVING
with the timer at 0 when not, or is released, with FAULTED as it stood; elsewhere it is STATE, and an undefined gate or
another position byte FIELD. The codes of positions and status in the reply are the model's (log 15). -/
def Obligations.HostDrives : Prop :=
  (∀ (tag : Byte) (z v d : Nat) (s : State), Ready s →
    let host := s.rcv.path = .config ∨ s.rcv.path = .armed ∨ s.rcv.path = .running
    (∀ e, host → s.pms.zone? z = some e → d ≤ 1 → z < s.zdu.zones.length →
      let q := zoneAt s z
      let w := if v ≤ e.vmax then v else e.vmax
      let duty := w * 1000 / e.vfs
      let dir : Dir := if d = 0 then .forward else .reverse
      let records := if w = 0 ∨ w = q.speed then s.flt.list else s.flt.list.map fun r =>
        { r with leadExp := r.leadExp.map (reformLead s z w), trailExp := r.trailExp.map (reformTrail s z w) }
      exec (.speed tag z v d) s = .next (replied 0x48 tag .done (decide (e.vmax < v)) (u8 z ++ u16 w ++ u8 d ++ u16 duty)
        (setZone z { q with speed := w, dir := dir, duty := duty, age := if w = 0 ∨ q.speed = 0 then 0 else q.age }
          { heard s with flt := { s.flt with list := records } }))) ∧
    (host → s.pms.zone? z = none ∨ 1 < d → exec (.speed tag z v d) s = .next (replied 0x48 tag .field false [] (heard s))) ∧
    (¬host → exec (.speed tag z v d) s = .next (replied 0x48 tag .state false [] (heard s)))) ∧
  ∀ (tag : Byte) (g : Nat) (s : State), Ready s →
    (∀ e, s.rcv.path = .config → s.pms.gate? g = some e → g < s.zdu.gates.length →
      let q := gateAt s g
      let reading := readingOf s e
      (∀ b : Bool, exec (.gate tag g (if b then 1 else 0)) s =
        .next (replied 0x49 tag .done false
          (u8 g ++ flag8 b ++ flag8 reading ++ [if reading = b then 2 else 1])
          (setGate g (if reading = b then { q with cmd := some b, status := .confirmed, faulted := false }
            else { q with cmd := some b, status := .moving, timer := 0, expired := false }) (heard s)))) ∧
      exec (.gate tag g 2) s = .next (replied 0x49 tag .done false (u8 g ++ [2] ++ flag8 reading ++ [0])
        (setGate g { q with cmd := none, status := .undriven, expired := false } (heard s)))) ∧
    (∀ pos, s.rcv.path = .config → s.pms.gate? g = none ∨ 2 < pos →
      exec (.gate tag g pos) s = .next (replied 0x49 tag .field false [] (heard s))) ∧
    (∀ pos, s.rcv.path ≠ .config → exec (.gate tag g pos) s = .next (replied 0x49 tag .state false [] (heard s)))

/-! ## Admission -/

/-- SHEET_S accepted (R44, R45, R52, R53, R55, R57, R58, R69, R100): in ARMED and RUNNING, with room in the list, an open
route, a defined media entry that suits it and an ordinal above every one of its stream, the sheet gets the first number from
the counter on that nothing holds and joins the list's tail as R58 makes it, ANNOUNCED before a working SENSOR node and
MOVING before a MARK, a TRANSFER or a FAILED SENSOR node; the counter goes past that number (65535 to 1), the path is
RUNNING, and the reply carries the number. `Admits` says what a gate at the end of the first step does and how a first step
into a station is handed off. Nothing else changes. The model's: MOVING before a DEST or REMOTE node (log 17), a sheet that
joins a stream of unordered ones (log 31), and a hand-off on a route that ends locally (log 18). -/
def Obligations.SheetSAdmits : Prop :=
  ∀ (tag : Byte) (job ordinal media route pageA n : Nat) (rt : RouteEntry) (e : MediaEntry) (g : SegEntry) (s : State),
    Ready s → (s.rcv.path = .armed ∨ s.rcv.path = .running) → s.flt.list.length < 24 → s.pms.route? route = some rt →
    rt.purge = false → routeAvailable s rt.steps = true → s.pms.media? media = some e →
    (duplexRoute s.pms route = true → e.duplex = true ∧ pageA ≠ 65535) →
    (∀ r ∈ s.flt.list, streamOf s.pms r = (job, routeDest s.pms route) → r.ordinal < ordinal) →
    FirstFree s n → FeedsFirst s route g →
    Admits (.sheetS tag job ordinal media route pageA) 0x4A tag
      ⟨job, ordinal, route, false, some media, e.length, e.tolerance, e.doubleMargin, e.slip, pageA,
        if duplexRoute s.pms route then some (pageA + 1) else none, none⟩ none s.xlm.sets g n s

/-- SHEET_F accepted (R44, R45, R52, R53, R56, R57, R58, R69, R145, R146, R147), with media EXPLICIT and a length of 500 to
20000, or a media code and length 0: as SHEET_S; a sheet with a set number that no entry of the set table holds opens a set
in the lowest free slot, and one whose number an OPEN entry of its job, destination and staple flag holds joins that set; the
last flag closes it. A hand-off at the first step counts in its set. The model's: MOVING before a DEST or REMOTE node (log
17), and a hand-off on a route that ends locally (log 18), and counts of a set that go on past 65535 (log 78). -/
def Obligations.SheetFAdmits : Prop :=
  ∀ (tag : Byte) (job ordinal route media length pageA setPos flags n : Nat) (pageB setNo : Option Nat) (rt : RouteEntry)
    (e : MediaEntry) (g : SegEntry) (s : State),
    Ready s → (s.rcv.path = .armed ∨ s.rcv.path = .running) → s.flt.list.length < 24 → s.pms.route? route = some rt →
    rt.purge = false → routeAvailable s rt.steps = true → FieldsAgree s job route media length flags pageB setNo e →
    (flags.testBit 2 = false → ∀ r ∈ s.flt.list, streamOf s.pms r = (job, routeDest s.pms route) → r.ordinal < ordinal) →
    (∀ k, setNo = some k → findSet s job k = none → s.xlm.sets.length < 8) →
    FirstFree s n → FeedsFirst s route g →
    let last := flags.testBit 0
    let staple := flags.testBit 1
    let joins (part : Option SetPart) (sets : List SetEntry) : Prop :=
      Admits (.sheetF tag job ordinal route media length pageA pageB setNo setPos flags) 0x4B tag
        ⟨job, ordinal, route, flags.testBit 2, if media = 255 then none else some media,
          if media = 255 then length else e.length, e.tolerance, e.doubleMargin, e.slip, pageA, pageB,
          setNo.map fun k => (k, setPos, last, staple)⟩ part sets g n s
    (setNo = none → joins none s.xlm.sets) ∧
    (∀ k, setNo = some k → findSet s job k = none →
      let slot := freeSlot s.xlm.sets
      joins (some ⟨slot, k, setPos, last, staple⟩) (s.xlm.sets ++
        [⟨slot, job, k, routeDest s.pms route, staple, ordinal, ordinal, none, 1, 0, 0, false, last⟩])) ∧
    (∀ k x, setNo = some k → findSet s job k = some x →
      joins (some ⟨x.slot, k, setPos, last, staple⟩) (s.xlm.sets.map fun y => if y.slot = x.slot
        then { x with admitted := x.admitted + 1, lastAdmitted := ordinal, closed := last } else y))

/-- SHEET_S and SHEET_F refused (R53, R54, R55, R56, R57): STATE outside ARMED and RUNNING, then FULL with 24 records, then
ROUTE for a route that is undefined, is a purge route or is unavailable, then FIELD for an undefined media entry or fields
that do not agree, then ORDER for an ordered sheet whose ordinal is not above every one of its stream, then FULL for a sheet
that would open a ninth set. A refused request changes nothing. -/
def Obligations.SheetsRefused : Prop :=
  ∀ (tag : Byte) (job ordinal media route pageA length setPos flags : Nat) (pageB setNo : Option Nat) (s : State), Ready s →
    let short := Instr.sheetS tag job ordinal media route pageA
    let full := Instr.sheetF tag job ordinal route media length pageA pageB setNo setPos flags
    let refused (kind : Byte) (c : Instr) (why : Status) : Prop := exec c s = .next (replied kind tag why false [] (heard s))
    let armed := s.rcv.path = .armed ∨ s.rcv.path = .running
    let open_ := ∃ rt, s.pms.route? route = some rt ∧ rt.purge = false ∧ routeAvailable s rt.steps = true
    let late := ∃ r ∈ s.flt.list, streamOf s.pms r = (job, routeDest s.pms route) ∧ ordinal ≤ r.ordinal
    let both (why : Status) : Prop := refused 0x4A short why ∧ refused 0x4B full why
    (¬armed → both .state) ∧
    (armed → 24 ≤ s.flt.list.length → both .full) ∧
    (armed → s.flt.list.length < 24 → ¬open_ → both .route) ∧
    (armed → s.flt.list.length < 24 → open_ →
      (s.pms.media? media = none → refused 0x4A short .field) ∧
      (∀ e, s.pms.media? media = some e →
        let suits := duplexRoute s.pms route = true → e.duplex = true ∧ pageA ≠ 65535
        (¬suits → refused 0x4A short .field) ∧ (suits → late → refused 0x4A short .order)) ∧
      ((∀ e, ¬FieldsAgree s job route media length flags pageB setNo e) → refused 0x4B full .field) ∧
      (∀ e, FieldsAgree s job route media length flags pageB setNo e →
        (flags.testBit 2 = false → late → refused 0x4B full .order) ∧
        (∀ k, (flags.testBit 2 = true ∨ ¬late) → setNo = some k → findSet s job k = none → 8 ≤ s.xlm.sets.length →
          refused 0x4B full .full)))

/-! ## Resume, abandon, take -/

/-- RESUME with an empty list and nothing unexplained (R141, R143, R171): the jam record and the abandoned set are emptied
and the path is ARMED, no record re-armed; with the set table empty, the marker COMPLETE and no snapshot being written, row 0
is to be written EMPTY. Outside RESUMABLE it is STATE. RESUME with an unexplained node (R92, R141): RESIDUAL naming the
lowest such node and its zone becomes the first cause of the emptied record, with the node's latest sample and clear level,
the path is CLEARING with the node's area listed, and the records keep their dispositions; the reply carries CLEARING and
RESIDUAL, in a layout and with a code that are the model's (logs 14, 15). -/
def Obligations.ResumeStops : Prop :=
  (∀ (tag : Byte) (s : State), Ready s →
    (s.rcv.path ≠ .resumable → exec (.resume tag) s = .next (replied 0x4C tag .state false [] (heard s))) ∧
    (s.rcv.path = .resumable → s.flt.list = [] → (∀ p ∈ sensorNodes s.pms, unexplained s p.1 = false) →
      exec (.resume tag) s = .next (replied 0x4C tag .done false [1, 0]
        { heard s with
          rcv := { s.rcv with path := .armed, jam := .empty }
          rpq := { s.rpq with abandoned := [] }
          spm := if s.xlm.sets = [] ∧ s.spm.marker = true ∧ writingSnapshot s.spm = false
            then addOp ⟨.invalidate, [(0, List.replicate 16 0)]⟩ s.spm else s.spm }))) ∧
  ∀ (tag : Byte) (n : Nat) (e : NodeEntry) (pre post : List (Nat × NodeEntry)) (s : State), Ready s → s.rcv.path = .resumable →
    sensorNodes s.pms = pre ++ (n, e) :: post → (∀ p ∈ pre, unexplained s p.1 = false) → unexplained s n = true →
    ∃ t c, exec (.resume tag) s = .next t ∧ t.rcv.path = .clearing ∧ t.rcv.jam = ⟨some c, none, nodeAreas s.pms n⟩ ∧
      c.cause = .residual ∧ c.node = some n ∧ c.zone = nodeZone s.pms n ∧ c.sheet = none ∧ c.time = s.sys.now ∧
      c.measured = (nodeAt s n).latest.map (fun x => (x : Int)) ∧
      c.bound = ((nodeAt s n).baseline.bind (levelsOf s.pms)).map (fun l => (l.2 : Int)) ∧
      (∀ a ∈ nodeAreas s.pms n, a ∈ t.clm.list) ∧
      t.flt.list.map (fun r => (r.sheet, r.lead, r.disp)) = s.flt.list.map (fun r => (r.sheet, r.lead, r.disp)) ∧
      t.clk.reply = .formed ⟨0x4C, tag, .done, false, [5, 13]⟩ ∧ t.zdu = s.zdu ∧ t.xlm = s.xlm ∧ t.pms = s.pms

/-- RESUME with records and nothing unexplained (R142, R143): every record keeps its number, its steps and its held offset
and depth, whose references go on from now, and loses its disposition and its purge join; its arrivals are rebased by what
their zones had run at the hold; its lead window at a working SENSOR node runs from now over the remaining length, on a FEED
step as a pick window (log 24), at a REMOTE node as a remote window, and none opens elsewhere or on a REVERSE step; a stay
window opens at the trail's next held node. The reply carries RUNNING and the number of records; map, sets and reprint
entries stay. With no stay window past its hi and no gate that starts MOVING with its sheet within the guard distance
(`GateShort`; R43, R44, R45), the path is RUNNING and the jam record empty; otherwise it is HALTING, its first cause GATE at
the first such gate (R45), or with none STAY of the first such record (R82). A re-armed window's budget and times are formed
at its zone's speed (log 24). That every record is re-armed, whatever its disposition, is the model's (log 71), and so is the
zone that STAY names (log 75). -/
def Obligations.ResumeRearms : Prop :=
  ∀ (tag : Byte) (s : State), Ready s → s.rcv.path = .resumable → s.flt.list ≠ [] →
    (∀ p ∈ sensorNodes s.pms, unexplained s p.1 = false) →
    let window (r : Record) (g : SegEntry) : LeadExp :=
      let left := ((((g.len * 100 : Nat) : Int) - r.lead.offset) / 100).toNat
      let hi := (left + g.late) * 100 + ceilDiv (left * r.slip) 10
      { kind := if g.kind = .feed then .pick else .travel, node := g.dst, zone := g.zone, ref := travelOf s g.zone
        lo := (left - g.early) * 100, hi := hi, margin := g.margin, budget := formBudget hi 0 g.margin (speedOf s g.zone), elapsed := 0, times := none }
    let rebased (a : Arrival) : Arrival := { a with stamp := travelOf s a.zone - ((s.rcv.holdTravel[a.zone]?).getD 0 - a.stamp) }
    let now (r : Record) : Travel := travelOf s (((leadSeg s.pms r).map (·.zone)).getD 0)
    ∃ t, exec (.resume tag) s = .next t ∧ (t.rcv.path = .running ∨ t.rcv.path = .halting) ∧
      t.flt.list.length = s.flt.list.length ∧ t.flt.counter = s.flt.counter ∧
      t.clk.reply = .formed ⟨0x4C, tag, .done, false, [2, BitVec.ofNat 8 s.flt.list.length]⟩ ∧
      t.pms = s.pms ∧ t.xlm = s.xlm ∧ t.rpq = { s.rpq with abandoned := [] } ∧ t.spm = s.spm ∧
      (∀ (i : Nat) (r : Record), s.flt.list[i]? = some r → ∃ q : Record, t.flt.list[i]? = some q ∧
        q = { r with
          lead := { r.lead with ref := now r - BitVec.ofInt 32 r.lead.offset }
          depth := r.depth.map fun d => { d with ref := now r - BitVec.ofInt 32 d.value }
          arrivals := r.arrivals.map rebased
          leadExp := q.leadExp, trailExp := q.trailExp, disp := none, purgeJoin := none } ∧
        (∀ g, leadSeg s.pms r = some g → g.kind ≠ .reverse → working s g.dst = true → q.leadExp = some (window r g)) ∧
        (∀ g, leadSeg s.pms r = some g → g.kind ≠ .reverse → nodeKind s.pms g.dst = some .remote →
          q.leadExp = some (remoteOn s (window r g))) ∧
        (∀ g, leadSeg s.pms r = some g → g.kind = .reverse ∨ (working s g.dst = false ∧ nodeKind s.pms g.dst ≠ some .remote) →
          q.leadExp = none) ∧
        (∀ a g, heldEntry s r = some a → s.pms.seg? a.seg = some g → q.trailExp = some (stayOn s r (rebased a) g)) ∧
        (heldEntry s r = none → q.trailExp = none)) ∧
      ((∀ x ∈ definedEntries s.pms.gates, x.1 < s.zdu.gates.length) → (s.flt.list.map (·.sheet)).Nodup →
        let run (a : Arrival) : Int := travelDiff (travelOf s a.zone) (rebased a).stamp
        let within (r : Record) : Prop := ∀ a, heldEntry s r = some a →
          ∃ g, s.pms.seg? a.seg = some g ∧ run a ≤ (stayOn s r (rebased a) g).hi
        let halts (c : JamCause) : Prop := t.rcv.path = .halting ∧ t.rcv.jam.first = some c ∧ t.rcv.jam.second = none
        (∀ pre k e post, definedEntries s.pms.gates = pre ++ (k, e) :: post → (∀ x ∈ pre, ¬GateShort s x.1 x.2) → GateShort s k e →
          ∃ d : Int, halts ⟨.gate, none, some e.node, nodeZone s.pms e.node, some d, some (e.guard * 100 : Nat), s.sys.now⟩) ∧
        ((∀ x ∈ definedEntries s.pms.gates, ¬GateShort s x.1 x.2) →
          ((∀ r ∈ s.flt.list, within r) → t.rcv.path = .running ∧ t.rcv.jam = .empty) ∧
          ∀ pre r post a g, s.flt.list = pre ++ r :: post → (∀ x ∈ pre, within x) → heldEntry s r = some a →
            s.pms.seg? a.seg = some g → run a > (stayOn s r (rebased a) g).hi →
            halts ⟨.stay, some r.sheet, some a.node, some a.zone, some (run a), some (stayOn s r (rebased a) g).hi, s.sys.now⟩))

/-- ABANDON (R137, R144, R151, R155), where every set entry has its own slot: in CLEARING and RESUMABLE the job joins the
abandoned set, its reprint entries and its sets go, its RETAIN records receive REMOVE, and RESUMABLE becomes CLEARING when
there was one; each of its sets of which something had been handed off has a set cancel, in creation order, on the cancel
queue of its station, or, where that holds 8, an error notice; the REPRINT notice comes last, and only when entries were
removed. The reply counts them, of the sets those of which something had been handed off, which is the model's reading (log
32); the map as it stands gives the station (log 76). Elsewhere it is STATE. What is said of these notices holds of a step in
which none is lost. -/
def Obligations.AbandonClearsJob : Prop :=
  ∀ (tag : Byte) (job : Nat) (s : State), Ready s →
    (s.rcv.path ≠ .clearing → s.rcv.path ≠ .resumable →
      exec (.abandon tag job) s = .next (replied 0x4D tag .state false [] (heard s))) ∧
    (s.rcv.path = .clearing ∨ s.rcv.path = .resumable → (s.xlm.sets.map (·.slot)).Nodup →
      let kept (r : Record) : Bool := r.disp == some .retain && r.job == job
      let path := if s.flt.list.any kept then .clearing else s.rcv.path
      let cancels := setCancels s.pms (s.xlm.sets.filter fun x => x.job == job && decide (0 < x.handedOff)) s.xlm.stations
      ∃ t, exec (.abandon tag job) s = .next t ∧ t.rcv = { s.rcv with path := path } ∧
        (∃ ns, t.clk.notices = s.clk.notices ++ ns ∧
          (t.clk.lost = false → (∀ n ∈ cancels.2, n ∈ ns) ∧ ((∃ x ∈ s.rpq.queue, entryJob x = job) →
            ns.getLast? = some (.reprint t.rpq.queue.length
              (t.rpq.queue.countP fun x => match x with | .overflow _ _ => true | _ => false) t.rpq.incomplete))) ∧
          ((∀ x ∈ s.rpq.queue, entryJob x ≠ job) → ∀ a b c, .reprint a b c ∉ ns)) ∧
        t.rpq.queue = s.rpq.queue.filter (fun x => entryJob x != job) ∧ job ∈ t.rpq.abandoned ∧
        (∀ j ∈ s.rpq.abandoned, j ∈ t.rpq.abandoned) ∧ t.rpq.incomplete = s.rpq.incomplete ∧ t.rpq.touched = false ∧
        t.flt.list = s.flt.list.map (fun r => if kept r then { r with disp := some .remove } else r) ∧
        t.xlm = { s.xlm with sets := s.xlm.sets.filter (fun x => x.job != job), stations := cancels.1 } ∧
        t.clk.reply = .formed ⟨0x4D, tag, .done, false,
          u8 (s.rpq.queue.countP fun x => entryJob x == job) ++ u8 (s.flt.list.countP kept) ++
            u8 (s.xlm.sets.countP fun x => x.job == job && decide (0 < x.handedOff)) ++ u8 path.code⟩ ∧
        (∀ r ∈ s.flt.list, kept r = true → ∀ a ∈ bodyAreas s.pms r, a ∈ t.clm.list) ∧
        t.pms = s.pms ∧ t.sfe = s.sfe ∧ t.zdu = s.zdu ∧ t.spm = s.spm)

/-- TAKE (R138, R191, R192): a count of 1 to 6 takes up to that many entries from the queue's head and returns them with the
number left and the flag as it then stands, which is cleared when the queue is empty; any other count is FIELD. The position
bytes of an entry with no set are the model's (log 62). -/
def Obligations.TakeReturnsEntries : Prop :=
  ∀ (tag : Byte) (n : Nat) (s : State), Ready s →
    (1 ≤ n → n ≤ 6 →
      let left := s.rpq.queue.drop n
      let flag := if left = [] then false else s.rpq.incomplete
      exec (.take tag n) s = .next (replied 0x4E tag .done false
        (list8 ((s.rpq.queue.take n).map encodeEntry) ++ u8 left.length ++ flag8 flag)
        { heard s with rpq := { s.rpq with queue := left, incomplete := flag } })) ∧
    (n = 0 ∨ 6 < n → exec (.take tag n) s = .next (replied 0x4E tag .field false [] (heard s)))

/-! ## Queries -/

/-- The queries without a range (R96, R132, R139, R163, R182) are accepted in every path state, change nothing, and are DONE
with the fields of their rules; REPRINT carries the entries that a TAKE of 6 would return. The queries with a range, a page
or a name (R33, R48, R72, R163, R176) change nothing and are DONE with what it names; a page, part or first row outside it
and a row count of 0 are FIELD, and a sheet number that no record holds is UNKNOWN_SHEET. The layouts and the codes that the
spec leaves open are the model's (logs 14, 15), and so are the order of the abandoned set (log 58) and its cut where it does
not fit (log 33). -/
def Obligations.QueriesAnswer : Prop :=
  (∀ (tag : Byte) (s : State), Ready s →
    let done (fs : List Byte) : Host.Outcome State Fault Refusal := .next (replied 0x4F tag .done false fs (heard s))
    exec (.queryState tag) s = done (u8 s.rcv.path.code ++ flag8 s.spm.warn ++ u8 s.flt.list.length ++ u8 s.xlm.sets.length ++
      u8 s.rpq.queue.length ++ flag8 s.rpq.incomplete ++ flag8 s.spm.marker ++ flag8 s.spm.pendingMark ++
      u8 s.clk.notices.length ++ flag8 s.clk.lost ++ s.xlm.stations.flatMap (fun q => u8 q.link.code) ++ u16 s.flt.counter ++
      u8 s.sys.cause.code) ∧
    exec (.queryJam tag) s = done (if s.rcv.jam.first = none then [1] else 0 :: encodeJam s.rcv.jam) ∧
    exec (.queryAreas tag) s = done (list8 ((definedEntries s.pms.areas).map fun x => areaFields s x.1 x.2) ++
      list8 (s.clm.list.map u8)) ∧
    exec (.queryReprint tag) s = done (u8 s.rpq.queue.length ++ flag8 s.rpq.incomplete ++
      list8 (fitting (listRoom (2 + (list8 ((s.rpq.queue.take 6).map encodeEntry)).length)) (s.rpq.abandoned.map u8)) ++
      list8 ((s.rpq.queue.take 6).map encodeEntry)) ∧
    exec (.queryStations tag) s = done (s.xlm.stations.flatMap stationFields)) ∧
  ∀ (tag : Byte) (n count : Nat) (s : State), Ready s →
    let done (fs : List Byte) : Host.Outcome State Fault Refusal := .next (replied 0x4F tag .done false fs (heard s))
    let no (why : Status) : Host.Outcome State Fault Refusal := .next (replied 0x4F tag why false [] (heard s))
    (∀ pre r post, s.flt.list = pre ++ r :: post → r.sheet = n → (∀ q ∈ pre, q.sheet ≠ n) →
      exec (.querySheet tag n) s = done (sheetFields s r (pre.length + 1))) ∧
    ((∀ r ∈ s.flt.list, r.sheet ≠ n) → exec (.querySheet tag n) s = no .unknownSheet) ∧
    exec (.queryFlight tag n) s = (if n ≤ 3
      then done (list8 (((s.flt.list.drop (6 * n)).take 6).map flightFields) ++ u8 s.flt.list.length ++ u16 s.flt.counter)
      else no .field) ∧
    exec (.querySets tag n) s = (if n ≤ 1
      then done (list8 (((s.xlm.sets.drop (4 * n)).take 4).map setFields) ++ u8 s.xlm.sets.length) else no .field) ∧
    exec (.queryZones tag n) s = (if n ≤ 1
      then done (list8 (((definedEntries s.pms.zones).filter fun x => decide (x.1 / 4 = n ∨ (n = 1 ∧ 8 ≤ x.1))).map
        fun x => zoneFields s x.1))
      else if n = 2 then done (list8 ((definedEntries s.pms.gates).map fun x => gateFields s x.1 x.2)) else no .field) ∧
    exec (.queryNodes tag n count) s = done (list8 (fitting 117
      (((sensorNodes s.pms).filter fun x => decide (n ≤ x.1 ∧ x.1 < n + count)).map fun x => nodeFields s x.1 x.2))) ∧
    exec (.querySnapshot tag n count) s = (if n ≤ 63 ∧ 1 ≤ count
      then done (flag8 s.spm.marker ++ flag8 s.spm.pendingMark ++
        list8 (fitting 115 ((((List.range 64).drop n).take count).map (rowFields s.spm))))
      else no .field)

/-! ## The snapshot's requests -/

/-- SNAP_ADOPT (R135, R174): outside CONFIG it is STATE; with nothing pending it is DONE with counts of 0; with a snapshot
pending, the set rows with a compiled count and then the sheet rows that its header counts are offered to the queue, the
pending mark goes, row 0 is to be written EMPTY, and the reply waits for that write. An offer is decided by the first of
R135's six cases: nothing of an abandoned job or a sheet that a SET entry covers; folded into its job's OVERFLOW, whose
from-ordinal becomes the lower one; appended below 63 entries; an OVERFLOW in the last place at 63; and lost at 64, the queue
then incomplete. All but the first two owe the REPRINT notice (R137; that a fold or a loss always does is the model's, log
56). SNAP_DROP (R175): outside CONFIG it is STATE; while a snapshot is being written it waits; otherwise the pending mark
goes, and with the marker COMPLETE row 0 is to be written EMPTY and the reply waits for that write, with it EMPTY the reply
is DONE at once. -/
def Obligations.SnapshotRequests : Prop :=
  (∀ (e : ReprintEntry) (q : Rpq),
    let j := entryJob e
    let o := entryOrdinal e
    let covered := ∃ c sheet dest a b k place first last, e = .sheet c sheet j o dest a b (some (k, place)) ∧
      .set j k first last ∈ q.queue ∧ first ≤ o ∧ o ≤ last
    let folds := ∃ f, .overflow j f ∈ q.queue
    let owing (l : List ReprintEntry) : Rpq := { q with queue := l, touched := true }
    (j ∈ q.abandoned ∨ covered → offer e q = q) ∧
    (j ∉ q.abandoned → ¬covered →
      (folds → offer e q = owing (q.queue.map fun x => match x with
        | .overflow i f => if i = j then .overflow i (min f o) else x
        | _ => x)) ∧
      (¬folds → (q.queue.length ≤ 62 → offer e q = owing (q.queue ++ [e])) ∧
        (q.queue.length = 63 → offer e q = owing (q.queue ++ [.overflow j o])) ∧
        (64 ≤ q.queue.length → offer e q = { owing q.queue with incomplete := true })))) ∧
  (∀ (tag : Byte) (s : State), Ready s →
    (s.rcv.path ≠ .config → exec (.snapAdopt tag) s = .next (replied 0x51 tag .state false [] (heard s))) ∧
    (s.rcv.path = .config → s.spm.pendingMark = false →
      exec (.snapAdopt tag) s = .next (replied 0x51 tag .done false [0, 0, 0] (heard s))) ∧
    (s.rcv.path = .config → s.spm.pendingMark = true →
      let h := readHeader (rowAt s.spm 1).bytes
      let sets := (List.range h.sets).filterMap fun i => readSetRow (rowAt s.spm (26 + i)).bytes
      let sheets := (List.range h.records).map fun i => readSheetRow (rowAt s.spm (2 + i)).bytes
      let q := sets.foldl (fun q e => offer e q) s.rpq
      let q' := sheets.foldl (fun q e => offer e q) q
      ∃ t, exec (.snapAdopt tag) s = .next t ∧ t.rpq = { q' with touched := false } ∧ t.spm.pendingMark = false ∧
        t.spm.rows = s.spm.rows ∧ t.spm.ops = s.spm.ops ++ [⟨.adopt tag (q.queue.length - s.rpq.queue.length)
          (q'.queue.length - q.queue.length) h.notSaved, [(0, List.replicate 16 0)]⟩] ∧
        t.clk.reply = .forming 0x11 tag ∧ t.pms = s.pms ∧ t.rcv = s.rcv ∧ t.flt = s.flt ∧ t.xlm = s.xlm)) ∧
  ∀ (tag : Byte) (s : State), Ready s →
    (s.rcv.path ≠ .config → exec (.snapDrop tag) s = .next (replied 0x52 tag .state false [] (heard s))) ∧
    (s.rcv.path = .config → writingSnapshot s.spm = true → exec (.snapDrop tag) s = .next
      { heard s with
        spm := { s.spm with dropWait := some tag }
        clk := { (heard s).clk with reply := .forming 0x12 tag } }) ∧
    (s.rcv.path = .config → writingSnapshot s.spm = false → s.spm.marker = false →
      exec (.snapDrop tag) s = .next (replied 0x52 tag .done false [0]
        { heard s with spm := { s.spm with pendingMark := false, dropWait := none } })) ∧
    (s.rcv.path = .config → s.spm.ops = [] → s.spm.marker = true → exec (.snapDrop tag) s = .next
      { heard s with
        spm := { s.spm with
          pendingMark := false, dropWait := none, marker := false, elapsed := 0
          ops := [⟨.drop tag, [(0, List.replicate 16 0)]⟩] }
        clk := { (heard s).clk with reply := .forming 0x12 tag } })

/-! ## Sensors and covers -/

/-- SENSOR_EDGE, two samples of a line (R19 to R22, R86, R94, R102): a line that no SENSOR node names only moves its pin; a
node with the run at 0 takes the latest sample and a run of 1 when the second sample alone lies past its level; both past it
change the level. In CONFIG that is all; in ARMED a LEAD edge raises UNEXPECTED. An UNSET level counts no run. -/
def Obligations.SamplesJudged : Prop :=
  ∀ (line x y : Nat) (s : State), Awake s → s.sfe.calib = none →
    let p : State := { s with pins := { s.pins with sensors := s.pins.sensors.set line y } }
    (nodeOfLine s.pms line = none → exec (.sensorEdge line x y) s = .next p) ∧
    ∀ n, nodeOfLine s.pms line = some n → n < s.sfe.nodes.length →
      let q := nodeAt s n
      let at_ (l : Level) (run : Nat) : State := setNode n { q with latest := some y, level := l, run := run } p
      (q.level = .unset → exec (.sensorEdge line x y) s = .next (at_ .unset 0)) ∧
      ∀ (b : Nat) (m : Params), q.run = 0 → q.baseline = some b → s.pms.params = some m →
        let cover := b * m.coverPct / 100
        let clear := b * m.clearPct / 100
        (q.level = .clear → ¬(x < cover ∧ y < cover) →
          exec (.sensorEdge line x y) s = .next (at_ .clear (if y < cover then 1 else 0))) ∧
        (q.level = .covered → ¬(clear < x ∧ clear < y) →
          exec (.sensorEdge line x y) s = .next (at_ .covered (if clear < y then 1 else 0))) ∧
        (q.level = .clear → x < cover → y < cover →
          (s.rcv.path = .config → exec (.sensorEdge line x y) s = .next (at_ .covered 0)) ∧
          (s.rcv.path = .armed → Room 1 s → exec (.sensorEdge line x y) s = .next
            (jammed ⟨.unexpected, none, some n, nodeZone s.pms n, none, none, s.sys.now⟩ (nodeAreas s.pms n) (at_ .covered 0)))) ∧
        (q.level = .covered → clear < x → clear < y → s.rcv.path = .config → s.clm.list = [] →
          exec (.sensorEdge line x y) s = .next (at_ .clear 0))

/-- A LEAD edge in RUNNING at a node where a lead is expected in a travel or a pick window (R61, R62, R64, R74, R77, R81,
R85, R92, R94, R102): in a travel window an arrival below lo is EARLY, one above hi LATE; one within, and any in a pick
window, is accepted: the record is MOVING, and on a route without gates and stations, with the next step's end a working
sensor, the lead takes that step with its window, and the arrival joins the arrivals under the body. Behind a trail that
waits at an earlier sensor that is all; on the step the trail stands on, as for an ANNOUNCED sheet picked, the trail's stay
window opens at the node. -/
def Obligations.ArrivalJudged : Prop :=
  ∀ (line x y n z : Nat) (r : Record) (e : LeadExp) (s : State), Awake s → s.rcv.path = .running → Edge s line x y n true →
    nodeZone s.pms n = some z → pocketEnd s n = false → returnsWithin s n = none → expectedAt s n = some r →
    findRec s r.sheet = some r → r.leadExp = some e →
    let a := travelDiff (travelOf s z) e.ref
    let p := edged line y n true s
    let areas := unionAreas (bodyAreas s.pms r) (nodeAreas s.pms n)
    let cause (c : Cause) (bound : Int) : JamCause := ⟨c, some r.sheet, some n, some e.zone, some a, some bound, s.sys.now⟩
    (e.kind = .travel → a < e.lo → Room 1 s → exec (.sensorEdge line x y) s = .next (jammed (cause .early e.lo) areas p)) ∧
    (e.kind = .travel → (e.lo : Int) ≤ a → a > e.hi → Room 1 s →
      exec (.sensorEdge line x y) s = .next (jammed (cause .late e.hi) areas p)) ∧
    ∀ (i : Nat) (g : SegEntry), e.kind = .pick ∨ (e.kind = .travel ∧ (e.lo : Int) ≤ a ∧ a ≤ e.hi) →
      stepNo (pathOf s.pms r) r.lead.step = some i → stepSeg s.pms r (r.lead.step + 1) = some g → g.kind ≠ .reverse →
      working s g.dst = true → definedEntries s.pms.gates = [] → stationsNeeded s.pms (pathOf s.pms r) 1 = [] →
      let entry : Arrival := ⟨n, z, travelOf s z, i, false⟩
      let q : Record := { r with
        progress := .moving
        lead := ⟨r.lead.step + 1, travelOf s g.zone, 0⟩
        leadExp := some (windowOn s r g 0)
        arrivals := r.arrivals ++ [entry] }
      (r.trailStep < r.lead.step → (heldEntry s r).isSome = true → exec (.sensorEdge line x y) s = .next (putRec q p)) ∧
      ∀ h, r.trailStep = r.lead.step → r.arrivals = [] → leadSeg s.pms r = some h → g.src = n → working s n = true →
        exec (.sensorEdge line x y) s = .next (putRec { q with trailExp := some (stayOn s r entry h) } p)

/-- A TRAIL edge at a node where a stay window is open, on a path without gates (R61, R64, R66, R80 to R84): a leave travel
above hi is STAY; at a measure node, but for a return's window, it measures the sheet, DOUBLE above declared + double margin
and SIZE outside the tolerance; elsewhere one below length - tolerance is SHORT. These are raised for a watched record alone.
An accepted edge takes the trail a step on, its arrivals entry gone and its next stay window open, onto a REVERSE step under
the lead as REVERSING with depth 0; then the nearest lead expected there is CROWD when it is closer than the min gap; where
that next stay window is already past its hi this is STAY, and the areas of a CROWD at the same edge join it in RUNOUT (R87,
R93, R117). The model's: STAY before the measure, and an edge of a record that is not watched accepted past hi, its length
stored unjudged (log 21), one below 0 as 0 (log 68); the zone that a failure names, the window's own (log 75); a distance
below 0 taken as 0 (log 64). -/
def Obligations.TrailJudged : Prop :=
  ∀ (line x y n z : Nat) (m : Params) (r : Record) (e : TrailExp) (a : Arrival) (s : State), Awake s → Edge s line x y n false →
    moving s = true → nodeZone s.pms n = some z → s.pms.params = some m → definedEntries s.pms.gates = [] → s.clm.list = [] →
    (s.flt.list.map (·.sheet)).Nodup → (s.flt.list.find? fun q => q.trailExp.any fun w => w.node == n) = some r →
    r.trailExp = some e → r.progress = .moving → heldEntry s r = some a → a.node = n →
    let t := travelDiff (travelOf s e.zone) e.ref
    let k := t / 100
    let p := edged line y n false s
    let measuring : Bool := (s.pms.node? n).bind (·.measure) == some true && !a.isReturn
    let least : Int := (r.declared : Int) - r.tolerance
    let most : Int := r.declared + r.tolerance
    let double : Int := r.declared + r.doubleMargin
    let short : Int := ((lengthOf r : Int) - r.tolerance) * 100
    let fails (c : Cause) (v b : Int) : Prop := Room 1 s → exec (.sensorEdge line x y) s = .next
      (failed ⟨c, some r.sheet, some n, some e.zone, some v, some b, s.sys.now⟩
        (unionAreas (bodyAreas s.pms r) (nodeAreas s.pms n)) p)
    (Watched s r → t > e.hi → fails .stay t (e.hi : Int)) ∧
    (Watched s r → t ≤ e.hi → measuring = true → k > double → fails .double k double) ∧
    (Watched s r → t ≤ e.hi → measuring = true → k ≤ double → k < least ∨ most < k → fails .size k (r.declared : Int)) ∧
    (Watched s r → t ≤ e.hi → measuring = false → t < short → fails .short t short) ∧
    (¬Watched s r ∨ (t ≤ e.hi ∧ if measuring then k ≤ double ∧ least ≤ k ∧ k ≤ most else short ≤ t) →
      ∀ (as : List Arrival) (g g' gl : SegEntry), r.arrivals = a :: as → stepSeg s.pms r r.trailStep = some g → g.dst = n →
        stepSeg s.pms r (r.trailStep + 1) = some g' → leadSeg s.pms r = some gl → gl.kind = .reverse ∨ working s gl.dst = true →
      let q : Record := { r with
        measured := if measuring then some k.toNat else r.measured
        trailStep := r.trailStep + 1, arrivals := as, trailExp := none }
      let leaves (q : Record) : Prop :=
        let u := putRec q p
        let gap : Int := (m.minGap * 100 : Nat)
        (∀ r2 w, expectedAt s n = some r2 → r2.sheet ≠ r.sheet → r2.leadExp = some w → Watched s r2 →
          max 0 (remainingSigned s.pms r2) < gap → Room 1 s → exec (.sensorEdge line x y) s = .next
            (failed ⟨.crowd, some r2.sheet, some n, some w.zone, some (max 0 (remainingSigned s.pms r2)), some gap, s.sys.now⟩
              (unionAreas (bodyAreas s.pms r2) (nodeAreas s.pms n)) u)) ∧
        ((∀ r2, expectedAt s n = some r2 → ¬Watched s r2 ∨ gap ≤ max 0 (remainingSigned s.pms r2)) →
          exec (.sensorEdge line x y) s = .next u);
      (r.trailStep + 1 = r.lead.step → g'.kind ≠ .reverse → leaves q) ∧
      (r.trailStep + 1 = r.lead.step → g'.kind = .reverse →
        leaves { q with progress := .reversing, depth := some ⟨0, travelOf s g'.zone, false⟩ }) ∧
      (∀ a' h, heldEntry s q = some a' → s.pms.seg? a'.seg = some h →
        let w := stayOn s q a' h
        (¬Watched s r ∨ travelDiff (travelOf s w.zone) w.ref ≤ w.hi → leaves { q with trailExp := some w }) ∧
        (Watched s r → travelDiff (travelOf s w.zone) w.ref > w.hi → Room 1 s →
          let c : JamCause := ⟨.stay, some r.sheet, some w.node, some w.zone, some (travelDiff (travelOf s w.zone) w.ref),
            some (w.hi : Int), s.sys.now⟩
          let areas := unionAreas (bodyAreas s.pms { q with trailExp := some w }) (nodeAreas s.pms w.node)
          let u := putRec { q with trailExp := some w } p
          let gap : Int := (m.minGap * 100 : Nat)
          (∀ r2, expectedAt s n = some r2 → r2.sheet ≠ r.sheet → r2.leadExp.isSome = true → Watched s r2 →
            max 0 (remainingSigned s.pms r2) < gap → exec (.sensorEdge line x y) s =
              .next (failedTwice c areas (unionAreas (bodyAreas s.pms r2) (nodeAreas s.pms n)) u)) ∧
          ((∀ r2, expectedAt s n = some r2 → ¬Watched s r2 ∨ gap ≤ max 0 (remainingSigned s.pms r2)) →
            exec (.sensorEdge line x y) s = .next (failed c areas u)))))

/-- The hand-off (R62, R69, R147, R155, R158, R159): an accepted arrival takes the lead onto the first step that needs a
station, a REMOTE one. With fewer than 4 hand-offs waiting, the hand-off joins the station's queue and the record says that
it is made; its set counts it, and its last member. With 4, an ONLINE station becomes LOST by its queue, its hand-offs
dropped, with LINK_LOST where it is in use and sheets are driven; any other station takes no hand-off, and nothing more
happens. The bin is the local number of the route's station destination; for a route that ends locally there is none, which
is the model's (log 18), and so is a count that goes on past 65535 (log 78). -/
def Obligations.HandOffsMade : Prop :=
  ∀ (line x y n z i k : Nat) (r : Record) (e : LeadExp) (g : SegEntry) (s : State), Awake s → Arrives s line x y n z r e →
    definedEntries s.pms.gates = [] → s.clm.list = [] → r.progress = .moving → r.trailStep < r.lead.step →
    (heldEntry s r).isSome = true → stepNo (pathOf s.pms r) r.lead.step = some i →
    stepSeg s.pms r (r.lead.step + 1) = some g → g.kind = .remote → nodeKind s.pms g.dst = some .remote →
    r.handOff = false → r.purgeJoin = none → stationsNeeded s.pms ((pathOf s.pms r).take r.lead.step) 1 = [] →
    (stationOfNode s.pms g.dst).isSome = true → 1 ≤ k → k ≤ s.xlm.stations.length →
    (stationOfNode s.pms (routeDest s.pms r.route) = some k ∨
      (stationOfNode s.pms (routeDest s.pms r.route) = none ∧ stationOfNode s.pms g.dst = some k)) →
    let bin := if stationOfNode s.pms (routeDest s.pms r.route) = some k
      then (s.pms.node? (routeDest s.pms r.route)).bind (·.localNo) else none
    let stepped : Record := { r with
      lead := ⟨r.lead.step + 1, travelOf s g.zone, 0⟩
      leadExp := some (remoteOn s (windowOn s r g 0))
      arrivals := r.arrivals ++ [⟨n, z, travelOf s z, i, false⟩] }
    let p := putRec stepped (edged line y n true s)
    let q := stationAt s k
    let taken := setStation k { q with handOffs := q.handOffs ++ [⟨r.sheet, r.setPart, bin⟩] }
      (putRec { stepped with handOff := true } p)
    let gone : State := noticed [.station k .lost (.lost true)]
      { setStation k { q with link := .lost, retry := 0, miss := 0, handOffs := [] } p with
        clm := { s.clm with due := stationDue s k } }
    (q.handOffs.length < 4 → r.setPart = none → exec (.sensorEdge line x y) s = .next taken) ∧
    (∀ m x', q.handOffs.length < 4 → r.setPart = some m →
      (s.xlm.sets.find? fun y => y.slot == m.slot && y.job == r.job && y.number == m.number) = some x' →
      exec (.sensorEdge line x y) s = .next { taken with xlm := { taken.xlm with sets := s.xlm.sets.map fun y =>
        if y.slot = x'.slot then { x' with handedOff := x'.handedOff + 1, lastSeen := x'.lastSeen || m.last } else y } }) ∧
    (4 ≤ q.handOffs.length → q.link ≠ .online → exec (.sensorEdge line x y) s = .next p) ∧
    (4 ≤ q.handOffs.length → q.link = .online →
      (¬Driven s ∨ stationInUse p k = false → Room 1 s → exec (.sensorEdge line x y) s = .next gone) ∧
      (Driven s → stationInUse p k = true → Room 2 s → exec (.sensorEdge line x y) s = .next
        (failed ⟨.linkLost, none, none, none, some (k : Int), none, s.sys.now⟩ (linkAreas s.pms k) gone)))

/-- BASELINE_TRACK (R26, R27, R28): the baseline of a SENSOR node moves a sixteenth of the way to its latest sample,
truncated toward 0, and its health is judged by R27's table (`HealthTable`) where it changed, when the node is CLEAR and not
FAILED, no calibration runs, and no sheet lies over the node, is expected there within 5000 µm or reverses at it; every other
node stays. That a lead past the node with its expectation open counts as within it is the model's (log 77). With the flight
list empty the zones, the path, the map, the sets and the rows stay, and each change of a health is noticed, in the order of
the nodes, which is the model's (log 43). -/
def Obligations.BaselineTracked : Prop :=
  ∀ (judge : Health → Setting → Nat → Health) (s : State), HealthTable judge → Awake s → s.sfe.nodes.length = 32 → s.pms.nodes.length = 32 →
    ∃ t, exec .baselineTrack s = .next t ∧ t.pms = s.pms ∧ t.pins = s.pins ∧ t.sfe.covers = s.sfe.covers ∧
      (∀ n e, s.pms.node? n = some e → e.kind = .sensor →
        let q := nodeAt s n
        let free := q.health ≠ .failed ∧ q.level = .clear ∧ s.sfe.calib = none ∧ ∀ r ∈ s.flt.list,
          liesOver s.pms r n = false ∧ (∀ w, r.leadExp = some w → w.node = n → 5000 < remainingSigned s.pms r) ∧
          reversingAt s.pms n r = none
        (¬free → nodeAt t n = q) ∧
        ∀ b x, free → q.baseline = some b → q.latest = some x →
          let b' := ((b : Int) + ((x : Int) - b).tdiv 16).toNat
          (nodeAt t n).baseline = some b' ∧ (nodeAt t n).latest = some x ∧
            (nodeAt t n).health = if b' = b then q.health else judge q.health .tracking b') ∧
      (let told := (sensorNodes s.pms).filterMap fun x =>
          let q := nodeAt s x.1
          q.baseline.bind fun b => q.latest.bind fun y =>
            let b' := ((b : Int) + ((y : Int) - b).tdiv 16).toNat
            if q.health ≠ .failed ∧ q.level = .clear ∧ s.sfe.calib = none ∧ b' ≠ b
            then sensorNotice s .tracking x.1 b' (judge q.health .tracking b') else none
       s.flt.list = [] → Room told.length s → t.clk.notices = s.clk.notices ++ told) ∧
      (s.flt.list = [] → t.flt = s.flt ∧ t.zdu = s.zdu ∧ t.rcv = s.rcv ∧ t.xlm = s.xlm ∧ t.spm = s.spm ∧ t.rpq = s.rpq)

/-- COVER_EVENT (R31, R25, R95, R101, R102, R117, R124, R125, R131): a level the part holds already moves only the pin;
otherwise the debounced state follows (logs 2, 5). An opening of a cover of a defined area ends a calibration with STATE; it
is the first cause COVER in ARMED and RUNNING and the second in RUNOUT, and in HALTING its areas join the jam areas. In
CLEARING and RESUMABLE the RETAIN records over its areas get REMOVE, with the later ordered ones of their streams (of a
stream with unordered ones too, log 69), and the path is CLEARING, the areas of the cover and of those records listed and
NEEDED. A closing changes no more outside CLEARING; there each listed NEEDED area of the cover starts CHECKING, and with an
empty list and the last cover closed the path is RESUMABLE. -/
def Obligations.CoversJudged : Prop :=
  ∀ (line : Nat) (o : Bool) (s : State), Awake s →
    let p : State := { s with pins := { s.pins with covers := s.pins.covers.set line o } }
    let f : State := { p with sfe := { s.sfe with
      covers := s.sfe.covers.set line o, coverCount := s.sfe.coverCount.set line 0 } }
    let as := areasOfCover s.pms (.line line)
    let ended : State := match s.sfe.calib with
      | some c => replied 0x47 c.tag .state false [] { f with sfe := { f.sfe with calib := none } }
      | none => f
    (s.sfe.covers[line]? ≠ some (!o) → exec (.coverEvent line o) s = .next p) ∧
    (s.sfe.covers[line]? = some (!o) →
      (as = [] ∨ (o = false ∧ s.rcv.path ≠ .clearing) → exec (.coverEvent line o) s = .next f) ∧
      (o = true → as ≠ [] →
        (s.rcv.path = .config → exec (.coverEvent line o) s = .next ended) ∧
        (s.rcv.path = .armed ∨ Driven s → Room 1 s →
          exec (.coverEvent line o) s = .next (failed ⟨.cover, none, none, none, none, none, s.sys.now⟩ as ended)) ∧
        (s.rcv.path = .halting → exec (.coverEvent line o) s = .next
          { ended with rcv := { s.rcv with jam := { s.rcv.jam with areas := unionAreas s.rcv.jam.areas as } } }) ∧
        (s.rcv.path = .clearing ∨ s.rcv.path = .resumable →
          let hit (r : Record) : Prop := r.disp = some .retain ∧ ∃ a ∈ as, a ∈ bodyAreas s.pms r
          let falls (r : Record) : Prop := r.disp = some .retain ∧ (hit r ∨ (r.unordered = false ∧
            ∃ q ∈ s.flt.list, hit q ∧ streamOf s.pms q = streamOf s.pms r ∧ q.ordinal < r.ordinal))
          let touched (a : Nat) : Prop := ∃ r ∈ s.flt.list, falls r ∧ a ∈ bodyAreas s.pms r
          ∃ t, exec (.coverEvent line o) s = .next t ∧ t.rcv = { s.rcv with path := .clearing } ∧
            t.pms = s.pms ∧ t.sfe = ended.sfe ∧ t.zdu = s.zdu ∧ t.xlm = s.xlm ∧ t.rpq = s.rpq ∧ t.spm = s.spm ∧
            t.flt.list.length = s.flt.list.length ∧
            (∀ (i : Nat) (r : Record), s.flt.list[i]? = some r →
              (falls r → t.flt.list[i]? = some { r with disp := some .remove }) ∧ (¬falls r → t.flt.list[i]? = some r)) ∧
            (∀ a, a ∈ t.clm.list ↔ a ∈ s.clm.list ∨ touched a ∨ (a ∈ as ∧ (areaAt s a).status ≠ .checking)) ∧
            ∀ a < s.clm.areas.length,
              ((a ∉ s.clm.list ∧ (a ∈ as ∨ touched a)) ∨ (a ∈ as ∧ (areaAt s a).status = .checking) → (areaAt t a).status = .needed) ∧
              (¬((a ∉ s.clm.list ∧ (a ∈ as ∨ touched a)) ∨ (a ∈ as ∧ (areaAt s a).status = .checking)) → areaAt t a = areaAt s a))) ∧
      (o = false → as ≠ [] → s.rcv.path = .clearing →
        let starts (a : Nat) : Prop := a ∈ as ∧ a ∈ s.clm.list ∧ (areaAt s a).status = .needed
        (s.clm.list ≠ [] → ∃ t, exec (.coverEvent line o) s = .next t ∧ t.rcv = s.rcv ∧ t.flt = s.flt ∧ t.sfe = f.sfe ∧
          t.clm.list = s.clm.list ∧ t.clm.due = s.clm.due ∧ ∀ a < s.clm.areas.length,
            (starts a → areaAt t a = ⟨.checking, 0⟩) ∧ (¬starts a → areaAt t a = areaAt s a)) ∧
        (∀ a, as = [a] → starts a → a < s.clm.areas.length → Room 1 s → exec (.coverEvent line o) s = .next
          (noticed [.area a .checking (some false) s.clm.list.length .check none] (setArea a ⟨.checking, 0⟩ f))) ∧
        (s.clm.list = [] → allCoversClosed f = false → exec (.coverEvent line o) s = .next f) ∧
        (s.clm.list = [] → allCoversClosed f = true → Room 1 s → exec (.coverEvent line o) s = .next
          (noticed [.ready s.flt.list.length s.rpq.queue.length s.rpq.incomplete]
            { f with
              clm := { s.clm with due := [] }
              rcv := { s.rcv with path := .resumable }
              flt := { s.flt with list := s.flt.list.map fun r => { r with leadExp := none, trailExp := none } } }))))

/-! ## Gates and zones by event -/

/-- GATE_FEEDBACK (R32, R43, R45, R46, R117): a level the part holds already moves only the pin (log 5). Otherwise the
reading follows, and the gate of the line confirms when it stood MOVING toward that position, with FAULTED cleared, and loses
its confirmation, its timer at 0, when it stood CONFIRMED elsewhere; the status changes before any jam (log 35). In RUNNING
and RUNOUT a move under a body is GATE, and so is a loss of confirmation with the served record within the guard distance.
Under ARM's gate test the gate that confirms at 1 is driven to 0, and at 0 the next gate is driven to 1, or ARM ends. -/
def Obligations.FeedbackConfirms : Prop :=
  ∀ (line : Nat) (pos : Bool) (s : State), Awake s →
    let p : State := { s with pins := { s.pins with feedback := s.pins.feedback.set line pos } }
    let f : State := { p with sfe := { s.sfe with
      feedback := s.sfe.feedback.set line pos, feedbackRun := s.sfe.feedbackRun.set line 0 } }
    (s.sfe.feedback[line]? ≠ some (!pos) → exec (.gateFeedback line pos) s = .next p) ∧
    (s.sfe.feedback[line]? = some (!pos) →
      ((definedEntries s.pms.gates).filter (fun x => x.2.fbLine == line) = [] → s.zdu.armTest = none →
        exec (.gateFeedback line pos) s = .next f) ∧
      ∀ g e, (definedEntries s.pms.gates).filter (fun x => x.2.fbLine == line) = [(g, e)] → g < s.zdu.gates.length →
        let q := gateAt s g
        let lost := q.status = .confirmed ∧ q.cmd ≠ some pos
        let q' : GateState :=
          if q.cmd = some pos ∧ q.status = .moving then { q with status := .confirmed, faulted := false }
          else if lost then { q with status := .moving, timer := 0, expired := false }
          else q
        let kept := setGate g q' f
        let fails (d b : Option Int) : Prop := Room 1 s → exec (.gateFeedback line pos) s = .next
          (failed ⟨.gate, none, some e.node, nodeZone s.pms e.node, d, b, s.sys.now⟩ (nodeAreas s.pms e.node)
            (setGate g { q' with faulted := true } f))
        (s.zdu.armTest = none →
          (¬Driven s ∨ (bodyOver s e = false ∧ (¬lost ∨ served s e = none)) → exec (.gateFeedback line pos) s = .next kept) ∧
          (Driven s → bodyOver s e = true → fails none none) ∧
          (∀ r, Driven s → bodyOver s e = false → lost → served s e = some r →
            let d := max 0 (remainingSigned s.pms r)
            let guard : Int := (e.guard * 100 : Nat)
            (d ≤ guard → fails (some d) (some guard)) ∧ (guard < d → exec (.gateFeedback line pos) s = .next kept))) ∧
        (∀ t, s.zdu.armTest = some t → t.gate = g → t.pos = pos → s.rcv.path = .config → q.cmd = some pos → q.status = .moving →
          let next := (definedEntries s.pms.gates).filter fun x => g < x.1
          (pos = true → exec (.gateFeedback line pos) s = .next (setArmTest (some ⟨t.tag, g, false⟩)
            (setGate g { q with cmd := some false, status := .moving, timer := 0, expired := false, faulted := false } f))) ∧
          (∀ g2 e2 rest, pos = false → next = (g2, e2) :: rest → g2 < s.zdu.gates.length →
            let q2 := gateAt s g2
            exec (.gateFeedback line pos) s = .next (if readingOf s e2
              then setArmTest (some ⟨t.tag, g2, false⟩)
                (setGate g2 { q2 with cmd := some false, status := .moving, timer := 0, expired := false, faulted := false } kept)
              else setArmTest (some ⟨t.tag, g2, true⟩)
                (setGate g2 { q2 with cmd := some true, status := .moving, timer := 0, expired := false } kept))) ∧
          (pos = false → next = [] → ∃ u, exec (.gateFeedback line pos) s = .next u ∧ u.zdu.armTest = none ∧
            (u.rcv.path = .armed ∨ u.rcv.path = .clearing))))

/-- GATE_SWITCH_TIMEOUT (R43, R45, R46, R92, R94, R117): a gate whose timer runs and stands at the switch time is FAULTED and
expired. In RUNNING it is the first cause GATE, in RUNOUT the second; while ARM tests that gate, ARM is refused with MAP,
table 6, the gate and GATE_TEST; otherwise no more happens. A gate whose timer does not run, or stands below the switch time,
is left alone (logs 2, 5). -/
def Obligations.SwitchTimeoutFails : Prop :=
  ∀ (g : Nat) (s : State), Awake s →
    let q := gateAt s g
    (s.pms.gate? g = none ∨ q.status ≠ .moving ∨ q.expired = true ∨ (∃ e, s.pms.gate? g = some e ∧ q.timer < e.switchTime) →
      exec (.gateSwitchTimeout g) s = .next s) ∧
    ∀ e, s.pms.gate? g = some e → q.status = .moving → q.expired = false → e.switchTime ≤ q.timer → g < s.zdu.gates.length →
      let f := setGate g { q with timer := e.switchTime, expired := true, faulted := true } s
      let late : Int := (e.switchTime : Nat)
      (Driven s → Room 1 s → exec (.gateSwitchTimeout g) s = .next
        (failed ⟨.gate, none, some e.node, nodeZone s.pms e.node, some late, some late, s.sys.now⟩ (nodeAreas s.pms e.node) f)) ∧
      (¬Driven s → (∀ t, s.zdu.armTest = some t → t.gate ≠ g) → exec (.gateSwitchTimeout g) s = .next f) ∧
      (∀ t, ¬Driven s → s.zdu.armTest = some t → t.gate = g →
        exec (.gateSwitchTimeout g) s = .next (replied 0x45 t.tag .map false (u8 6 ++ u8 g ++ u8 15) (setArmTest none f)))

/-- ENCODER_EDGE and INVALID_STEP (R34, R38, R40, R41, R45, R60, R78): the pair's phase moves by one place or two. A counted
edge of a defined zone moves its travel by the pitch, and sets its edge age, its stall mark and the quiet time to 0; where no
sheet moves nothing else changes. In RUNNING a moving lead's offset follows its zone's travel; the first increment that takes
it past its window's hi is LATE, and one within the guard distance of a gate that is not confirmed where the sheet wants it
is GATE; at a gate on a mark the increment that takes the lead over the mark is GATE too, at the distance 0 and with any
guard distance, and the lead crosses. Of two watched sheets past their hi at one increment, in RUNNING or RUNOUT, the first
is LATE; in RUNOUT the areas of the other join the jam area set (R80, R87, R93, R117). The order of these at one edge is the
model's (log 65). An invalid step counts an error, up to 65535. On a held part only the phase moves, which is the model's
(log 3). -/
def Obligations.EncoderCounts : Prop :=
  ∀ (z : Nat) (fw : Bool) (s : State), Settled s → z < s.zdu.zones.length →
    let q := zoneAt s z
    let turned (k : Nat) : ZoneState := { q with phase := (q.phase + k) % 4 }
    let by_ : Nat := if fw then 1 else 3
    (s.sys.live = false ∨ s.pms.zone? z = none →
      exec (.encoderEdge z fw) s = .next (setZone z (turned by_) s) ∧ exec (.invalidStep z) s = .next (setZone z (turned 2) s)) ∧
    ∀ e, s.sys.live = true → s.pms.zone? z = some e →
      let travel : Travel := if fw then q.travel + BitVec.ofNat 32 e.pitch else q.travel - BitVec.ofNat 32 e.pitch
      let counted : State := setQuiet 0 (setZone z { turned by_ with travel := travel, age := 0, stallMark := false } s)
      exec (.invalidStep z) s = .next (setZone z { turned 2 with stepErrors := min (q.stepErrors + 1) 65535 } s) ∧
      (moving s = false → exec (.encoderEdge z fw) s = .next counted) ∧
      (∀ r g w, s.rcv.path = .running → s.flt.list = [r] → r.progress = .moving → r.depth = none →
        r.trailStep = r.lead.step → r.trailExp = none → leadSeg s.pms r = some g → g.zone = z → working s g.dst = true →
        r.leadExp = some w → w.kind = .travel → w.zone = z →
        let run := travelDiff travel w.ref
        let carried : State := setList [{ r with lead := { r.lead with offset := travelDiff travel r.lead.ref } }] counted
        (run ≤ w.hi → (∀ x ∈ definedEntries s.pms.gates, x.2.node ≠ g.dst) → exec (.encoderEdge z fw) s = .next carried) ∧
        (∀ k ge p, run ≤ w.hi → definedEntries s.pms.gates = [(k, ge)] → k < s.zdu.gates.length → ge.node = g.dst →
          wants s.pms ge r = some p →
          let d := max 0 (((g.len * 100 : Nat) : Int) - travelDiff travel r.lead.ref)
          let guard : Int := (ge.guard * 100 : Nat)
          let ready := (gateAt s k).status = .confirmed ∧ (gateAt s k).cmd = some p
          (guard < d ∨ ready → exec (.encoderEdge z fw) s = .next carried) ∧
          (d ≤ guard → ¬ready → Room 1 s → exec (.encoderEdge z fw) s = .next
            (jammed ⟨.gate, none, some ge.node, nodeZone s.pms ge.node, some d, some guard, s.sys.now⟩ (nodeAreas s.pms ge.node)
              (setGate k { gateAt s k with faulted := true } carried)))) ∧
        (run > w.hi → Room 1 s → exec (.encoderEdge z fw) s = .next
          (jammed ⟨.late, some r.sheet, some w.node, some z, some run, some (w.hi : Int), s.sys.now⟩
            (unionAreas (bodyAreas s.pms r) (nodeAreas s.pms w.node)) carried))) ∧
      (∀ r₁ r₂ w₁ w₂, Driven s → definedEntries s.pms.gates = [] → s.flt.list = [r₁, r₂] → r₁.sheet ≠ r₂.sheet →
        let runs (r : Record) (w : LeadExp) : Prop := r.progress = .moving ∧ r.depth = none ∧ r.trailStep = r.lead.step ∧
          r.trailExp = none ∧ (∃ g, leadSeg s.pms r = some g ∧ g.zone = z ∧ working s g.dst = true) ∧
          r.leadExp = some w ∧ w.kind = .travel ∧ w.zone = z
        runs r₁ w₁ → runs r₂ w₂ →
        let moved (r : Record) : Record := { r with lead := { r.lead with offset := travelDiff travel r.lead.ref } }
        let both : State := setList [moved r₁, moved r₂] counted
        let fails (r : Record) (w : LeadExp) : Prop := Watched s r ∧ travelDiff travel w.ref > w.hi
        let cause (r : Record) (w : LeadExp) : JamCause :=
          ⟨.late, some r.sheet, some w.node, some z, some (travelDiff travel w.ref), some (w.hi : Int), s.sys.now⟩
        let areas (r : Record) (w : LeadExp) : List Nat := unionAreas (bodyAreas s.pms r) (nodeAreas s.pms w.node)
        (¬fails r₁ w₁ → ¬fails r₂ w₂ → exec (.encoderEdge z fw) s = .next both) ∧
        (fails r₁ w₁ → ¬fails r₂ w₂ → Room 1 s →
          exec (.encoderEdge z fw) s = .next (failed (cause r₁ w₁) (areas r₁ w₁) both)) ∧
        (¬fails r₁ w₁ → fails r₂ w₂ → Room 1 s →
          exec (.encoderEdge z fw) s = .next (failed (cause r₂ w₂) (areas r₂ w₂) both)) ∧
        (fails r₁ w₁ → fails r₂ w₂ → Room 1 s →
          exec (.encoderEdge z fw) s = .next (failedTwice (cause r₁ w₁) (areas r₁ w₁) (areas r₂ w₂) both))) ∧
      ∀ r g g' k ge p, s.rcv.path = .running → s.flt.list = [r] → r.progress = .moving → r.depth = none → r.trailExp = none →
        r.leadExp = none → r.arrivals = [] → r.trailStep = r.lead.step → leadSeg s.pms r = some g → g.zone = z → g.kind ≠ .reverse →
        markLike s g.dst = true → nodeKind s.pms g.dst ≠ some .transfer → stepSeg s.pms r (r.lead.step + 1) = some g' →
        g'.src = g.dst → g'.dst ≠ g.dst → g'.kind ≠ .reverse → working s g'.dst = true → NoHandOff s r →
        definedEntries s.pms.gates = [(k, ge)] → k < s.zdu.gates.length → ge.node = g.dst → wants s.pms ge r = some p →
        ((g.len * 100 : Nat) : Int) ≤ travelDiff travel r.lead.ref →
        let past := (travelDiff travel r.lead.ref - (g.len * 100 : Nat)).toNat
        past < lengthOf r * 100 →
        let next (w : LeadExp) : State := setList [{ r with
          lead := ⟨r.lead.step + 1, travelOf counted g'.zone - BitVec.ofNat 32 past, past⟩, leadExp := some w }] counted
        let w := windowOn counted r g' past
        let ready := (gateAt s k).status = .confirmed ∧ (gateAt s k).cmd = some p
        (ready → past ≤ w.hi → exec (.encoderEdge z fw) s = .next (next w)) ∧
        (¬ready → Room 1 s → exec (.encoderEdge z fw) s = .next
          (jammed ⟨.gate, none, some ge.node, nodeZone s.pms ge.node, some 0, some (ge.guard * 100 : Nat), s.sys.now⟩
            (nodeAreas s.pms ge.node) (setGate k { gateAt s k with faulted := true } (next { w with budget := none }))))

/-- Crossings by the mark rule, of a record alone on a path without gates (R60, R63, R64, R65, R78): a lead that reaches the
end of its step at a MARK, TRANSFER or FAILED SENSOR node takes the next step with the excess, and its window opens there. A
trail by the mark rule takes the step under the lead when the lead is a sheet length past its node. The route's first
TRANSFER crossing images side A, the second side B: IMAGING at the lead's crossing, DONE at the trail's, but not with a purge
join, nor as the trail leaves a pocket. Below these distances the lead is only carried. -/
def Obligations.MarksCrossed : Prop :=
  ∀ (z : Nat) (fw : Bool) (e : ZoneEntry) (r : Record) (g : SegEntry) (s : State), Awake s → Carries s z e r g →
    r.progress = .moving → r.depth = none → r.arrivals = [] → r.trailExp = none → g.kind ≠ .reverse →
    let u := counted z e fw s
    let off := travelDiff (travelOf u z) r.lead.ref
    let c : Record := { r with lead := { r.lead with offset := off } }
    let side (step nth : Nat) (h : SegEntry) (v : Imaging) (o : Option Imaging) : Option Imaging :=
      if nodeKind s.pms h.dst = some .transfer ∧ r.purgeJoin = none ∧ transferCount s.pms ((pathOf s.pms r).take step) = nth
      then o.map fun _ => v else o
    (r.trailStep = r.lead.step → r.leadExp = none → markLike s g.dst = true → r.lead.step < (pathOf s.pms r).length →
      (off < (g.len * 100 : Nat) → exec (.encoderEdge z fw) s = .next (setList [c] u)) ∧
      (∀ g' : SegEntry, ((g.len * 100 : Nat) : Int) ≤ off → stepSeg s.pms r (r.lead.step + 1) = some g' → g'.src = g.dst →
        g'.kind ≠ .reverse → working s g'.dst = true → NoHandOff s r →
        let past := (off - (g.len * 100 : Nat)).toNat
        past < lengthOf r * 100 → past ≤ (windowOn u r g' past).hi →
        exec (.encoderEdge z fw) s = .next (setList [{ r with
          lead := ⟨r.lead.step + 1, travelOf u g'.zone - BitVec.ofNat 32 past, past⟩
          leadExp := some (windowOn u r g' past)
          sideA := side r.lead.step 1 g .imaging r.sideA
          sideB := side r.lead.step 2 g .imaging r.sideB }] u))) ∧
    (∀ (gt : SegEntry) (w : LeadExp), r.trailStep + 1 = r.lead.step → heldEntry s r = none →
      stepSeg s.pms r r.trailStep = some gt → working s g.dst = true → r.leadExp = some w → w.kind = .travel → w.zone = z →
      travelDiff (travelOf u z) w.ref ≤ w.hi →
      (off < (lengthOf r * 100 : Nat) → exec (.encoderEdge z fw) s = .next (setList [c] u)) ∧
      (((lengthOf r * 100 : Nat) : Int) ≤ off → exec (.encoderEdge z fw) s = .next (setList [{ c with
        trailStep := r.trailStep + 1
        sideA := if gt.kind = .reverse then r.sideA else side r.trailStep 1 gt .done r.sideA
        sideB := if gt.kind = .reverse then r.sideB else side r.trailStep 2 gt .done r.sideB }] u)))

/-- The switchback, of a record alone and REVERSING on a path without gates (R61, R66, R67, R68): at an increment of its
pocket's zone the depth follows the travel; above (L + T) × 100, or below -(T × 100), it is REVERSAL for a watched record. At
a from node that is a mark the return is taken at the first depth of 0 or below, with no arrivals entry, and when that
increment is REVERSAL it is not taken later; at a working SENSOR node it is the LEAD edge there, REVERSAL for a watched
record above E × 100 and below -(T × 100), else accepted: MOVING without a depth, the lead on the step after the pocket with
its window, the return its one arrival and the trail's stay window. The upper bound is not judged at an edge. The model's
(log 29): how the lower one is judged there, and that a MARK or TRANSFER from node is as a FAILED SENSOR. A LEAD edge at the
pocket's end changes nothing. -/
def Obligations.SwitchbackTurns : Prop :=
  ∀ (z : Nat) (e : ZoneEntry) (r : Record) (g : SegEntry) (d : Depth) (s : State), Awake s → Carries s z e r g →
    r.progress = .reversing → r.leadExp = none → r.trailExp = none → r.depth = some d → g.kind = .reverse → g.src ≠ g.dst →
    r.trailStep = r.lead.step → 0 < lengthOf r → NoHandOff s r →
    let low : Int := -((g.late * 100 : Nat) : Int)
    let early : Int := (g.early * 100 : Nat)
    let far : Int := ((g.len + g.late) * 100 : Nat)
    let cause (D b : Int) : JamCause := ⟨.reversal, some r.sheet, some g.src, some z, some D, some b, s.sys.now⟩
    let areas := unionAreas (bodyAreas s.pms r) (nodeAreas s.pms g.src)
    let goesOn (u : State) (c : Record) (g' : SegEntry) (arr : List Arrival) (w : Option TrailExp) : Record := { c with
      progress := .moving, depth := none, lead := ⟨r.lead.step + 1, travelOf u g'.zone, 0⟩
      leadExp := some (windowOn u r g' 0), arrivals := arr, trailExp := w }
    (∀ fw : Bool,
      let u := counted z e fw s
      let D := travelDiff (travelOf u z) d.ref
      let c : Record := { r with
        lead := { r.lead with offset := travelDiff (travelOf u z) r.lead.ref }, depth := some { d with value := D } }
      let v := setList [c] u
      let runs (t : State) : Prop := exec (.encoderEdge z fw) s = .next t
      let takes := markLike s g.src = true ∧ d.refused = false
      let kept : State := setList [{ c with depth := some ⟨D, d.ref, true⟩ }] u
      (Watched s r → far < D → Room 1 s → runs (failed (cause D far) areas v)) ∧
      (Watched s r → D < low → Room 1 s → (takes → runs (failed (cause D low) areas kept)) ∧
        (¬takes → runs (failed (cause D low) areas v))) ∧
      (¬Watched s r ∨ (low ≤ D ∧ D ≤ far) →
        (¬takes ∨ 0 < D → runs v) ∧
        ∀ g', takes → D ≤ 0 → stepSeg s.pms r (r.lead.step + 1) = some g' → g'.src = g.src →
          g'.kind ≠ .reverse → working s g'.dst = true → runs (setList [goesOn u c g' [] none] u))) ∧
    ∀ line x y : Nat,
      let p := edged line y g.src true s
      let runs (t : State) : Prop := exec (.sensorEdge line x y) s = .next t
      (Edge s line x y g.dst true → (nodeZone s.pms g.dst).isSome = true → runs (edged line y g.dst true s)) ∧
      (Edge s line x y g.src true → working s g.src = true → (nodeZone s.pms g.src).isSome = true →
        (Watched s r → early < d.value → Room 1 s → runs (failed (cause d.value early) areas p)) ∧
        (Watched s r → d.value < low → Room 1 s → runs (failed (cause d.value low) areas p)) ∧
        ∀ i g', ¬Watched s r ∨ (low ≤ d.value ∧ d.value ≤ early) → stepNo (pathOf s.pms r) (r.lead.step + 1) = some i →
          s.pms.seg? i = some g' → g'.src = g.src → g'.kind ≠ .reverse → working s g'.dst = true →
          let a : Arrival := ⟨g.src, g'.zone, travelOf s g'.zone, i, true⟩
          runs (setList [goesOn s r g' [a] (some (stayOn s r a g'))] p))

/-- Departures at a local destination (R64, R71, R100, R114, R115, R116, R118, R148, R171): at the increment that takes the
lead's offset to (step length + sheet length) × 100 on the path's last step, the record leaves the list, its held disposition
dropped: DELIVERED, or PURGED with its reprint entry when it has a purge join; a REMOVE record stays, as does every record
short of that. Its set, if it has one, takes its ordinal as delivered, or loses the member: `lostSets` lowers the counts, a
last member opens the set again, and the set goes with its last admitted one. The last record to leave RUNNING makes the path
ARMED; the last DELIVER or PURGE record to leave RUNOUT stops every zone, and the path is CLEARING or RESUMABLE. No other
record stands or waits on that zone, and the path has no gates. The model's: in HALTING a record leaves that a run-out had
carried past its destination (log 55), and an offer that is folded or lost owes its notice always (log 56). -/
def Obligations.SheetsLeave : Prop :=
  ∀ (z : Nat) (fw : Bool) (e : ZoneEntry) (r : Record) (g : SegEntry) (pre post : List Record) (s : State), Awake s →
    z < s.zdu.zones.length → s.pms.zone? z = some e → moving s = true → definedEntries s.pms.gates = [] →
    s.flt.list = pre ++ r :: post → (s.flt.list.map (·.sheet)).Nodup →
    (∀ q ∈ pre ++ post, (∀ h, leadSeg s.pms q = some h → h.zone ≠ z) ∧ (∀ w, q.leadExp = some w → w.zone ≠ z) ∧
      ∀ w, q.trailExp = some w → w.zone ≠ z) →
    leadSeg s.pms r = some g → g.zone = z → r.progress = .moving → r.depth = none → r.leadExp = none → r.trailExp = none →
    r.trailStep = r.lead.step → r.lead.step = (pathOf s.pms r).length → nodeKind s.pms g.dst = some .dest →
    stationOfNode s.pms g.dst = none →
    let u := counted z e fw s
    let off := travelDiff (travelOf u z) r.lead.ref
    let bound : Int := ((g.len + lengthOf r) * 100 : Nat)
    let runs (t : State) : Prop := exec (.encoderEdge z fw) s = .next t
    let rest := pre ++ post
    let out (sets : List SetEntry) : State := { setList rest u with
      rcv := { s.rcv with held := s.rcv.held.filter fun p => decide (p.1 ≠ r.sheet) }
      xlm := { s.xlm with sets := sets } }
    let going := ∃ q ∈ rest, q.disp = some .deliver ∨ q.disp = some .purge
    (off < bound ∨ r.disp = some .remove →
      runs (setList (pre ++ { r with lead := { r.lead with offset := off } } :: post) u)) ∧
    (bound ≤ off → r.disp ≠ some .remove →
      (r.purgeJoin = none → Room 1 s →
        let t := noticed [.delivered r.sheet r.job r.ordinal (routeDest s.pms r.route)] (out (deliveredSets r s.xlm.sets))
        (s.rcv.path = .halting ∨ (s.rcv.path = .running ∧ rest ≠ []) ∨ (s.rcv.path = .runout ∧ going) → runs t) ∧
        (s.rcv.path = .running → rest = [] → runs { t with
          rcv := { t.rcv with path := .armed }
          spm := if s.xlm.sets = [] ∧ s.spm.marker = true ∧ writingSnapshot s.spm = false
            then addOp ⟨.invalidate, [(0, List.replicate 16 0)]⟩ s.spm else s.spm }) ∧
        (s.rcv.path = .runout → ¬going → ∃ t', exec (.encoderEdge z fw) s = .next t' ∧
          (t'.rcv.path = .clearing ∨ t'.rcv.path = .resumable) ∧ (∀ y, speedOf t' y = 0) ∧
          t'.flt.list = rest.map (fun q => { q with leadExp := none, trailExp := none }) ∧ t'.rcv.jam = s.rcv.jam ∧
          t'.xlm = { s.xlm with sets := deliveredSets r s.xlm.sets })) ∧
      (∀ j, r.purgeJoin = some j → Room 2 s → s.rcv.path = .halting ∨ (s.rcv.path = .runout ∧ going) →
        let q := offer (sheetEntry s.pms .purged r) s.rpq
        runs (noticed (.purged r.sheet r.job r.ordinal g.dst :: if q.touched then [.reprint q.queue.length
          (q.queue.countP fun x => match x with | .overflow _ _ => true | _ => false) q.incomplete] else [])
          { out (lostSets r s.xlm.sets) with rpq := { q with touched := false } })) ∧
      (∀ j, r.purgeJoin = some j → s.rcv.path = .runout → ¬going → ∃ t', exec (.encoderEdge z fw) s = .next t' ∧
        (t'.rcv.path = .clearing ∨ t'.rcv.path = .resumable) ∧ (∀ y, speedOf t' y = 0) ∧
        t'.flt.list = rest.map (fun q => { q with leadExp := none, trailExp := none }) ∧ t'.rcv.jam = s.rcv.jam ∧
        t'.rpq = { offer (sheetEntry s.pms .purged r) s.rpq with touched := false } ∧
        t'.xlm = { s.xlm with sets := lostSets r s.xlm.sets }))

/-- STALL (R41, R92, R95, R117): a driven defined zone whose edge age is at its stall time takes the stall mark, when it
lacks it. In CONFIG and ARMED an advisory JAM notice says so and nothing halts (what areas it carries is the model's, log
25); in RUNNING it is a first cause, in RUNOUT the second. Any other zone, and one whose age is below the stall time, is left
alone (logs 2, 5). -/
def Obligations.StallsHandled : Prop :=
  ∀ (z : Nat) (s : State), Awake s →
    let q := zoneAt s z
    (s.pms.zone? z = none ∨ q.speed = 0 ∨ q.stallMark = true ∨ (∃ e, s.pms.zone? z = some e ∧ q.age < e.stallTime) →
      exec (.stall z) s = .next s) ∧
    ∀ e, s.pms.zone? z = some e → q.speed ≠ 0 → q.stallMark = false → e.stallTime ≤ q.age → z < s.zdu.zones.length → Room 1 s →
      let f := setZone z { q with stallMark := true } s
      let c : JamCause := ⟨.stall, none, none, some z, some (q.age : Int), some (e.stallTime : Int), s.sys.now⟩
      (s.rcv.path = .config ∨ s.rcv.path = .armed → exec (.stall z) s = .next (noticed [.jam true ⟨some c, none, []⟩] f)) ∧
      (Driven s → exec (.stall z) s = .next (failed c (stallAreas s z) f))

/-! ## Windows whose time runs out -/

/-- LATE_TIME, STAY, REPICK, MISFEED and REMOTE_LATE (R79, R80, R82, R85, R90, R92, R94, R102, R117): the time of a window of
a judged record that has run out (a formed budget at 0 with the window's zone commanded to move; a remote window's elapsed
count above its late time and the poll allowance, at any speed) is a first cause in RUNNING and a second in RUNOUT; it names
the sheet, the window's node and zone, with the areas of the body and the node. But the first expiry of a pick window sets
the repick count to 1, forms the budget afresh from hi at the zone's speed and posts REPICK, and halts nothing. In HALTING,
in the millisecond of a second failure for which the record's windows were judged, the areas of such a failure join the jam
area set (R87, R93; that the millisecond is the moment is the model's, log 74), and REPICK does nothing. Where the time has
not run out, where windows are not judged, and for a sheet number that no record holds, nothing happens (logs 2, 5). That
STAY names the window's own zone is the model's (log 75). -/
def Obligations.WindowsRunOut : Prop :=
  ∀ (n : Nat) (s : State), Awake s →
    let rows := [Instr.lateTime n, .stay n, .repick n, .misfeed n, .remoteLate n]
    (findRec s n = none → ∀ c ∈ rows, exec c s = .next s) ∧
    ∀ r, findRec s n = some r →
      (¬Watched s r → ¬SameMoment s n → ∀ c ∈ rows, exec c s = .next s) ∧
      (SameMoment s n →
        let joins (c : Instr) (node : Nat) : Prop := exec c s = .next (if s.rcv.jam.second.isSome
          then areasJoined (unionAreas (bodyAreas s.pms r) (nodeAreas s.pms node)) s else s)
        exec (.repick n) s = .next s ∧
        (∀ e, r.leadExp = some e → e.kind = .travel →
          (e.budget = some 0 → joins (.lateTime n) e.node) ∧ (e.budget ≠ some 0 → exec (.lateTime n) s = .next s)) ∧
        (∀ e, r.trailExp = some e →
          (e.budget = some 0 → joins (.stay n) e.node) ∧ (e.budget ≠ some 0 → exec (.stay n) s = .next s)) ∧
        (∀ e, r.leadExp = some e → e.kind = .pick →
          (e.budget = some 0 → r.repick = 1 → joins (.misfeed n) e.node) ∧
          (e.budget ≠ some 0 ∨ r.repick ≠ 1 → exec (.misfeed n) s = .next s)) ∧
        (∀ e early late, r.leadExp = some e → e.kind = .remote → e.times = some (early, late) →
          let bound := late + 3 * (s.xlm.stations.countP fun q => q.link != .absent) + 2
          (bound < e.elapsed → joins (.remoteLate n) e.node) ∧ (e.elapsed ≤ bound → exec (.remoteLate n) s = .next s))) ∧
      (Watched s r → Room 1 s →
        let fails (c : Instr) (cause : Cause) (node zone : Nat) (m : Int) (b : Option Int) : Prop :=
          exec c s = .next (failed ⟨cause, some n, some node, some zone, some m, b, s.sys.now⟩
            (unionAreas (bodyAreas s.pms r) (nodeAreas s.pms node)) s)
        let out (zone : Nat) (b : Option Nat) : Prop := b = some 0 ∧ speedOf s zone ≠ 0
        (∀ e, r.leadExp = some e → e.kind = .travel →
          (out e.zone e.budget → fails (.lateTime n) .lateTime e.node e.zone (travelDiff (travelOf s e.zone) e.ref) (some (e.hi : Int))) ∧
          (¬out e.zone e.budget → exec (.lateTime n) s = .next s)) ∧
        (∀ e, r.trailExp = some e →
          (out e.zone e.budget → fails (.stay n) .stay e.node e.zone (travelDiff (travelOf s e.zone) e.ref) (some (e.hi : Int))) ∧
          (¬out e.zone e.budget → exec (.stay n) s = .next s)) ∧
        (∀ e, r.leadExp = some e → e.kind = .pick →
          (out e.zone e.budget → r.repick = 0 → exec (.repick n) s = .next (noticed [.repick n r.job r.ordinal] (putRec { r with
            repick := 1
            leadExp := some { e with budget := some (min (ceilDiv e.hi (speedOf s e.zone) + e.margin) 65535) } } s))) ∧
          (out e.zone e.budget → r.repick = 1 → fails (.misfeed n) .misfeed e.node e.zone 1 none) ∧
          (¬out e.zone e.budget ∨ r.repick ≠ 0 → exec (.repick n) s = .next s) ∧
          (¬out e.zone e.budget ∨ r.repick ≠ 1 → exec (.misfeed n) s = .next s)) ∧
        (∀ e early late, r.leadExp = some e → e.kind = .remote → e.times = some (early, late) →
          let bound := late + 3 * (s.xlm.stations.countP fun q => q.link != .absent) + 2
          (bound < e.elapsed → fails (.remoteLate n) .late e.node e.zone (e.elapsed : Int) (some (bound : Int))) ∧
          (e.elapsed ≤ bound → exec (.remoteLate n) s = .next s)))

/-! ## Standstill -/

/-- STANDSTILL with one cause held (R38, R45, R104, R106, R107, R110, R112, R113, R117, R120, R137, R148, R150, R155):
outside HALTING, and while a zone is driven or an edge was counted within the last 20 ms, nothing happens (logs 5, 72).
Otherwise pass 0 discards each set with something compiled in a jam area: its SET entry is offered, its cancel queued, and it
goes. Every ANNOUNCED record leaves as VOIDED, its entry offered after those, its set losing it. The notices stand in the
order: cancels that a queue refused, VOIDED, PLAN with the counts and the state entered, and last REPRINT when the offers owe
it (log 56). The other records stay, each with a disposition; one that the first cause names or whose body touches a jam area
gets REMOVE, and `Chosen` says how the others are chosen (R105 to R111; how a repeat starts, which station counts and a set's
destination are the model's, logs 22, 54 and 76). With a record to deliver or purge the path is RUNOUT, in which the zones of
the run-out paths run forward at half their Vnom and every other stands; without one it is CLEARING or RESUMABLE, and every
zone is driven as before; a path RESUMABLE holds RETAIN records only, where every body lies in an area. On a path with gates
the beginning of RUNOUT may raise GATE at once, which is then the second cause. -/
def Obligations.StandstillPlans : Prop :=
  ∀ s : State, Awake s →
    let still := (∀ q ∈ s.zdu.zones, q.speed = 0) ∧ 20 ≤ s.zdu.quiet
    (s.rcv.path ≠ .halting ∨ ¬still → exec .standstill s = .next s) ∧
    (s.rcv.path = .halting → still → s.rcv.jam.second = none → (s.flt.list.map (·.sheet)).Nodup →
      let gone := discardedSets s
      let voids := s.flt.list.filter fun r => r.progress == .announced
      let cancels := setCancels s.pms gone s.xlm.stations
      let q : Rpq := (gone.map (fun e => ReprintEntry.set e.job e.number e.firstOrd (e.lastDelivered.getD e.lastAdmitted)) ++
        voids.map (sheetEntry s.pms .voided)).foldl (fun q e => offer e q) s.rpq
      let told (t : State) (n : Notice) : Prop := Room (cancels.2.length + voids.length + 1) s →
        ∃ rest, t.clk.notices = s.clk.notices ++ cancels.2 ++
          voids.map (fun r => .voided r.sheet r.job r.ordinal (routeDest s.pms r.route) r.repick) ++ n :: rest
      ∃ t, exec .standstill s = .next t ∧ t.pms = s.pms ∧ t.spm = s.spm ∧ t.rpq = { q with touched := false } ∧
        ((s.xlm.sets.map (·.slot)).Nodup → t.xlm = { s.xlm with
          sets := voids.foldl (fun l r => lostSets r l) (s.xlm.sets.filter fun e => !gone.contains e)
          stations := cancels.1 }) ∧
        (q.touched = true → t.clk.lost = false → t.clk.notices.getLast? = some (.reprint q.queue.length
          (q.queue.countP fun x => match x with | .overflow _ _ => true | _ => false) q.incomplete)) ∧
        t.flt.list.map (·.sheet) = (s.flt.list.filter fun r => r.progress != .announced).map (·.sheet) ∧
        (∀ r ∈ t.flt.list, r.progress ≠ .announced) ∧
       ((t.rcv.path = .halting ∧ definedEntries s.pms.gates ≠ [] ∧ t.rcv.jam.first = s.rcv.jam.first ∧
          (∃ c, t.rcv.jam.second = some c ∧ c.cause = .gate) ∧ (∀ z, speedOf t z = 0) ∧ (∀ r ∈ t.flt.list, r.disp = none) ∧
          ∃ d p k m, told t (.plan d p k m voids.length gone.length .runout)) ∨
       (t.rcv.jam = s.rcv.jam ∧ (∀ r ∈ t.flt.list, r.disp.isSome = true) ∧
        (let n (d : Disp) : Nat := t.flt.list.countP fun r => r.disp == some d
         told t (.plan (n .deliver) (n .purge) (n .retain) (n .remove) voids.length gone.length t.rcv.path)) ∧
        (∀ r ∈ s.flt.list, r.progress ≠ .announced →
          (∃ c, s.rcv.jam.first = some c ∧ c.sheet = some r.sheet) ∨ (∃ a ∈ s.rcv.jam.areas, a ∈ bodyAreas s.pms r) →
          ∃ q ∈ t.flt.list, q.sheet = r.sheet ∧ q.disp = some .remove) ∧
        (s.flt.list.length ≤ 24 → ∀ r ∈ s.flt.list, r.progress ≠ .announced →
          Chosen s (fun q => (findRec t q.sheet).bind (·.disp)) (fun q => (findRec t q.sheet).bind (·.purgeJoin)) r) ∧
        ((∃ r ∈ t.flt.list, r.disp = some .deliver ∨ r.disp = some .purge) → t.rcv.path = .runout ∧
          (let runs (z : Nat) : Prop := ∃ r ∈ t.flt.list, (r.disp = some .deliver ∨ r.disp = some .purge) ∧
            ∃ i ∈ runOutOf r (pathOf s.pms r), ∃ g, s.pms.seg? i = some g ∧ g.zone = z
           (∀ z < 8, ∀ e, s.pms.zone? z = some e → z < s.zdu.zones.length → runs z →
             speedOf t z = e.vnom / 2 ∧ (zoneAt t z).dir = .forward) ∧
           ∀ z, ¬runs z ∨ s.pms.zone? z = none → speedOf t z = 0)) ∧
        ((∀ r ∈ t.flt.list, r.disp ≠ some .deliver ∧ r.disp ≠ some .purge) →
          (t.rcv.path = .clearing ∨ t.rcv.path = .resumable) ∧ t.zdu.zones = s.zdu.zones ∧
          (t.rcv.path = .resumable → (∀ r ∈ s.flt.list, bodyAreas s.pms r ≠ []) → ∀ r ∈ t.flt.list, r.disp = some .retain)))))

/-- STANDSTILL with a second cause held and the indication true (R38, R104, R117, R119, R120): the records get their held
dispositions back: REMOVE where that is held, where the body touches a jam area, and for an ordered record where an earlier
record of its stream, of either kind (log 69), gets it by one of these; RETAIN otherwise. No record leaves, the held
dispositions go, and the path is CLEARING or RESUMABLE; a path RESUMABLE holds RETAIN records only, where every body lies in
an area. -/
def Obligations.StandstillWritesBack : Prop :=
  ∀ s : State, Awake s → s.rcv.path = .halting → (∀ q ∈ s.zdu.zones, q.speed = 0) → 20 ≤ s.zdu.quiet → s.rcv.jam.second.isSome = true →
    let held (r : Record) : Disp := ((s.rcv.held.find? fun p => p.1 == r.sheet).map (·.2)).getD .remove
    let falls (r : Record) : Prop := held r = .remove ∨ ∃ a ∈ s.rcv.jam.areas, a ∈ bodyAreas s.pms r
    ∃ t, exec .standstill s = .next t ∧ (t.rcv.path = .clearing ∨ t.rcv.path = .resumable) ∧ t.rcv.held = [] ∧
      t.rcv.jam = s.rcv.jam ∧ t.pms = s.pms ∧ t.xlm = s.xlm ∧ t.rpq = s.rpq ∧ t.spm = s.spm ∧ t.zdu.zones = s.zdu.zones ∧
      (t.rcv.path = .resumable → (∀ r ∈ s.flt.list, bodyAreas s.pms r ≠ []) → ∀ r ∈ t.flt.list, r.disp = some .retain) ∧
      t.flt.list.map (fun r => (r.sheet, r.lead, r.trailStep)) = s.flt.list.map (fun r => (r.sheet, r.lead, r.trailStep)) ∧
      ∀ (i : Nat) (r : Record), s.flt.list[i]? = some r → ∃ q : Record, t.flt.list[i]? = some q ∧
        (falls r ∨ (r.unordered = false ∧ ∃ x ∈ s.flt.list, falls x ∧ streamOf s.pms x = streamOf s.pms r ∧ x.ordinal < r.ordinal) →
          q.disp = some .remove) ∧
        (¬falls r → (r.unordered = false → ∀ x ∈ s.flt.list, falls x → streamOf s.pms x = streamOf s.pms r → r.ordinal ≤ x.ordinal) →
          q.disp = some .retain)

/-! ## Area checks -/

/-- AREA_CHECK and IMMEDIATE_CHECK (R123, R125, R126, R128, R131): the check of a listed area, CHECKING with its timer at 300
ms for the one and NEEDED and due for the other, in CLEARING, with no REMOVE body on it. A covered SENSOR node in the area
that is not excused makes it NEEDED again, the lowest one named; with none the area is DONE and leaves the list, and when it
was the last and every cover is closed the path is RESUMABLE. An area not due for its check is left alone (logs 2, 5). -/
def Obligations.AreasChecked : Prop :=
  ∀ (a : Nat) (c : Instr) (s p : State), Awake s →
    (s.rcv.path ≠ .clearing ∨ a ∉ s.clm.list ∨ (areaAt s a).status ≠ .checking ∨ (areaAt s a).timer < 300 →
      exec (.areaCheck a) s = .next s) ∧
    (a ∉ s.clm.due → exec (.immediateCheck a) s = .next s) ∧
    ((c = .areaCheck a ∧ (areaAt s a).status = .checking ∧ 300 ≤ (areaAt s a).timer ∧ p = s) ∨
        (c = .immediateCheck a ∧ (areaAt s a).status = .needed ∧ a ∈ s.clm.due ∧
          p = { s with clm := { s.clm with due := s.clm.due.filter fun b => b ≠ a } }) →
      s.rcv.path = .clearing → a ∈ s.clm.list → a < s.clm.areas.length →
      (∀ r ∈ s.flt.list, r.disp = some .remove → a ∉ bodyAreas s.pms r) →
      let found (x : Nat × NodeEntry) : Prop := x.2.area = a ∧ covered s x.1 = true ∧ skipped s x.1 = false
      let left := s.clm.list.filter fun b => b ≠ a
      let clear : State := { p with clm := { p.clm with areas := s.clm.areas.set a ⟨.done, 0⟩, list := left } }
      (∀ pre n e post, sensorNodes s.pms = pre ++ (n, e) :: post → (∀ x ∈ pre, ¬found x) → found (n, e) → Room 1 s →
        exec c s = .next (noticed [.area a .needed (coverOf s a) s.clm.list.length .blocked (some n)]
          { p with clm := { p.clm with areas := s.clm.areas.set a ⟨.needed, 0⟩ } })) ∧
      ((∀ x ∈ sensorNodes s.pms, ¬found x) → left ≠ [] ∨ allCoversClosed s = false → Room 1 s →
        exec c s = .next (noticed [.area a .done (coverOf s a) left.length .clear none] clear)) ∧
      ((∀ x ∈ sensorNodes s.pms, ¬found x) → left = [] → allCoversClosed s = true → Room 2 s →
        exec c s = .next (noticed [.area a .done (coverOf s a) 0 .clear none,
            .ready s.flt.list.length s.rpq.queue.length s.rpq.incomplete]
          { clear with
            clm := { clear.clm with due := [] }
            rcv := { s.rcv with path := .resumable }
            flt := { s.flt with list := s.flt.list.map fun r => { r with leadExp := none, trailExp := none } } })))

/-- The check that finds its area clear releases a REMOVE record whose body touches it (R126, R128, R129, R130, R131, R135,
R137, R148). With no covered node under its body, apart from those excused, the record leaves as REMOVED, with its reprint
entry and its notice naming the area, and its set, if it has one, loses it; of the areas that it touched, those listed and
NEEDED with a closed cover, no jam area and no other REMOVE body become due for an immediate check; and with the list empty
and every cover closed the path is RESUMABLE. With a covered node under its body the record stays, and that node's area is
listed again unless it stands in the list. One record touches the area, and the path has no gates. The model's: an area
without a cover counts as closed there (log 70), and an offer that is folded or lost owes its notice always (log 56). -/
def Obligations.AreasRelease : Prop :=
  ∀ (a : Nat) (r : Record) (s : State), Awake s → s.rcv.path = .clearing → a ∈ s.clm.list → a < 12 → s.clm.areas.length = 12 →
    (areaAt s a).status = .checking → 300 ≤ (areaAt s a).timer → definedEntries s.pms.gates = [] →
    (s.flt.list.map (·.sheet)).Nodup →
    (s.flt.list.filter fun q => removing q && (bodyAreas s.pms q).contains a) = [r] →
    (∀ x ∈ sensorNodes s.pms, ¬(x.2.area = a ∧ covered s x.1 = true ∧ skipped s x.1 = false)) →
    let runs (t : State) : Prop := exec (.areaCheck a) s = .next t
    let left := s.clm.list.filter fun b => b ≠ a
    let first : Notice := .area a .done (coverOf s a) left.length .clear none
    let clear : State := { s with clm := { s.clm with areas := s.clm.areas.set a ⟨.done, 0⟩, list := left } }
    let under (n : Nat) : Prop := liesOver s.pms r n = true ∧ covered s n = true ∧ skipped s n = false
    ((∀ x ∈ sensorNodes s.pms, ¬under x.1) →
      let q := offer (sheetEntry s.pms .removed r) s.rpq
      let rest := s.flt.list.filter fun y => decide (y.sheet ≠ r.sheet)
      let freed := (bodyAreas s.pms r).filter fun b => left.contains b && (areaAt s b).status == .needed && coverClosed s b &&
        !s.rcv.jam.areas.contains b && rest.all fun y => !(y.disp == some .remove && (bodyAreas s.pms y).contains b)
      let reprint : List Notice := if q.touched then [.reprint q.queue.length
        (q.queue.countP fun x => match x with | .overflow _ _ => true | _ => false) q.incomplete] else []
      let gone : Notice := .removed r.sheet r.job r.ordinal (routeDest s.pms r.route) a
      let out : State := { clear with
        flt := { s.flt with list := rest }
        rcv := { s.rcv with held := s.rcv.held.filter fun p => decide (p.1 ≠ r.sheet) }
        rpq := { q with touched := false }
        xlm := { s.xlm with sets := lostSets r s.xlm.sets } }
      (left ≠ [] ∨ allCoversClosed s = false → Room 3 s → runs (noticed (first :: gone :: reprint) { out with
        clm := { out.clm with due := freed.foldl (fun due b => if b ∈ due then due else due ++ [b]) s.clm.due } })) ∧
      (left = [] → allCoversClosed s = true → Room 4 s →
        runs (noticed (first :: gone :: .ready rest.length q.queue.length q.incomplete :: reprint) { out with
          clm := { out.clm with due := [] }
          rcv := { out.rcv with path := .resumable }
          flt := { s.flt with list := rest.map fun y => { y with leadExp := none, trailExp := none } } }))) ∧
    (∀ n b l rank, under n → (∀ x ∈ sensorNodes s.pms, under x.1 → x.1 = n) → n ∈ (sensorNodes s.pms).map (·.1) →
      nodeArea s.pms n = some b → b < 12 →
      (b ∈ left → Room 1 s → runs (noticed [first] clear)) ∧
      (b ∉ left → s.pms.area? b = some ⟨.line l, rank⟩ → Room 2 s →
        let again := insertArea s.pms b left
        runs (noticed [first, .area b .needed (coverOf s b) again.length .listed none]
          { clear with clm := { clear.clm with areas := clear.clm.areas.set b ⟨.needed, 0⟩, list := again } })))

/-! ## The expansion link -/

/-- POLL_SLOT (R152, R154, R155): the slot goes to the first station, in cyclic order after the one polled last, that is
ONLINE, or LOST with its retry timer at 100 ms; its POLL carries up to two hand-offs and two cancels from the heads of its
queues, which keep them, and a LOST one's retry timer starts again. The driver enable is asserted as the POLL begins, and
down when the slot's first 2 ms have passed (log 53). With none, only the slot clock restarts, with the driver enable down. A
POLL still unanswered is a miss first (log 36), and the bytes of a hand-off with no set are the model's (log 63). -/
def Obligations.SlotsPoll : Prop :=
  ∀ s : State, Awake s → 1 ≤ s.xlm.lastPolled → s.xlm.lastPolled ≤ 3 → s.xlm.stations.length = 3 →
    let turn (k : Nat) : Prop := (stationAt s k).link = .online ∨ ((stationAt s k).link = .lost ∧ 100 ≤ (stationAt s k).retry)
    let order := [s.xlm.lastPolled % 3 + 1, (s.xlm.lastPolled + 1) % 3 + 1, (s.xlm.lastPolled + 2) % 3 + 1]
    (s.xlm.exchange = none → (∀ k ∈ order, ¬turn k) →
      let t : State := { s with xlm := { s.xlm with slot := 0, pollChars := 0 } }
      exec .pollSlot s = .next t ∧ driverEnable t = false) ∧
    (∀ pre k post, s.xlm.exchange = none → order = pre ++ k :: post → (∀ j ∈ pre, ¬turn j) → turn k →
      let q := stationAt s k
      let hs := q.handOffs.take 2
      let cs := q.cancels.take 2
      let t : State := { s with xlm := { s.xlm with
        slot := 0
        pollChars := (pollFrame hs cs).length + 1
        lastPolled := k
        exchange := some ⟨k, hs, cs, pollFrame hs cs⟩
        stations := if q.link = .lost then s.xlm.stations.set (k - 1) { q with retry := 0 } else s.xlm.stations } }
      exec .pollSlot s = .next t ∧ driverEnable t = true ∧
        driverEnable { t with xlm := { t.xlm with slot := 2 } } = false) ∧
    (∀ x t, s.xlm.exchange = some x → exec .pollMiss s = .next t → exec .pollSlot s = exec .pollSlot t)

/-- STATION_REPLY (R121, R152, R156, R157, R160): a good reply of 3 payload bytes, with no report in it, whose station's jam
flag stands down, ends the exchange, sets the miss count to 0, takes what the POLL carried out of the station's queues, and
brings a LOST station back with its notice, its retry timer at 0 (log 59); nothing else changes. With no POLL open nothing
happens, and a reply of another address, length, CRC or kind counts as a bad reply does (log 26). Each item that the POLL
carried goes out of its queue once, at the first that equals it, which is the model's (log 36). -/
def Obligations.RepliesAcknowledge : Prop :=
  ∀ (f : LinkFrame) (lag : Nat) (s : State), Awake s →
    (s.xlm.exchange = none → exec (.stationReply f lag) s = .next s) ∧
    (∀ x, s.xlm.exchange = some x → f.address.toNat ≠ x.station ∨ f.length.toNat ≠ f.payload.length ∨
        f.crc ≠ crc8 (f.length :: f.kind :: f.payload) ∨ f.kind ≠ 0x02 →
      exec (.stationReply f lag) s = exec .badReply s) ∧
    ∀ x, s.xlm.exchange = some x → 1 ≤ x.station → x.station ≤ 3 → s.xlm.stations.length = 3 →
      f = ⟨BitVec.ofNat 8 x.station, 3, 0x02, [0, 0, 0], crc8 [3, 2, 0, 0, 0]⟩ → (stationAt s x.station).jamFlag = false →
      let q := stationAt s x.station
      let q' : StationState := { q with
        miss := 0
        handOffs := x.handOffs.foldl List.erase q.handOffs
        cancels := x.cancels.foldl List.erase q.cancels }
      (q.link ≠ .lost → exec (.stationReply f lag) s = .next (setExchange none (setStation x.station q' s))) ∧
      (q.link = .lost → Room 1 s → exec (.stationReply f lag) s = .next (noticed [.station x.station .online .returned]
        (setExchange none (setStation x.station { q' with link := .online, retry := 0 } s))))

/-- Edge reports (R61, R62, R64, R88, R89, R91, R157), one in a good reply of an ONLINE station whose jam flag stands down: a
station-local number that no REMOTE node has, and a sheet that no record holds, are an error notice; where no sheet moves
nothing happens. A LEAD report at the record's remote window is judged by the elapsed count less the age (raised by the wait,
held at 255): below early it is EARLY for a watched record, else the lead takes the next step, to a REMOTE node with its
window or to a destination; without that window it is an error when the lead arrived there before, and UNEXPECTED otherwise
while sheets are driven. A TRAIL report takes the trail across its next node; without that it is an error, but not for a node
that the trail crossed before. It is an error too while the lead stands on the trail's step, which is the model's (log
67). -/
def Obligations.ReportsJudged : Prop :=
  ∀ (x : Exchange) (trail : Bool) (ln sheet age lag : Nat) (s : State), Polled s x → (stationAt s x.station).jamFlag = false →
    ln < 8 → sheet < 65536 → age < 256 →
    let k := x.station
    let u := acknowledged x s
    let f := replyFrame k ([0x10, 0, 0] ++ u8 ((if trail then 128 else 0) + ln) ++ u16 sheet ++ u8 age)
    let runs (t : State) : Prop := exec (.stationReply f lag) s = .next t
    let error := noticed [.station k .online (.errorSheet sheet)] u
    (remoteNode s.pms k ln = none → Room 1 s → runs error) ∧
    ∀ n, remoteNode s.pms k ln = some n →
      (moving s = false → runs u) ∧
      (moving s = true → findRec s sheet = none → Room 1 s → runs error) ∧
      ∀ r, moving s = true → findRec s sheet = some r →
        let passed (step : Nat) : Prop := ∃ i ∈ (pathOf s.pms r).take (step - 1), ∃ h, s.pms.seg? i = some h ∧ h.dst = n
        let awaited := ∃ w, r.leadExp = some w ∧ w.kind = .remote ∧ w.node = n
        let crosses := r.progress = .moving ∧ r.trailStep < r.lead.step ∧ trailNext s.pms r = some n
        (∀ w early late, trail = false → r.leadExp = some w → w.kind = .remote → w.node = n → w.times = some (early, late) →
          let t := w.elapsed - min (age + lag) 255
          (Watched s r → t < early → Room 1 s → runs (failed
            ⟨.early, some sheet, some n, some w.zone, some (t : Int), some (early : Int), s.sys.now⟩
            (unionAreas (bodyAreas s.pms r) (nodeAreas s.pms n)) u)) ∧
          ∀ g, ¬Watched s r ∨ early ≤ t → definedEntries s.pms.gates = [] → r.progress = .moving → NoHandOff s r →
            r.trailStep < r.lead.step → (heldEntry s r).isSome = true → stepSeg s.pms r (r.lead.step + 1) = some g →
            g.kind ≠ .reverse → nodeKind s.pms g.dst = some .remote ∨ nodeKind s.pms g.dst = some .dest →
            runs (putRec { r with
              lead := ⟨r.lead.step + 1, travelOf s g.zone, 0⟩
              leadExp := if nodeKind s.pms g.dst = some .remote then some (remoteOn s (windowOn s r g 0)) else none } u)) ∧
        (trail = false → ¬awaited → passed r.lead.step → Room 1 s → runs error) ∧
        (trail = false → ¬awaited → ¬passed r.lead.step →
          (Driven s → Room 1 s → runs (failed ⟨.unexpected, none, some n, nodeZone s.pms n, none, none, s.sys.now⟩
            (nodeAreas s.pms n) u)) ∧
          (s.rcv.path = .halting → runs u)) ∧
        (∀ g g', trail = true → crosses → r.trailStep + 1 = r.lead.step → r.arrivals = [] → definedEntries s.pms.gates = [] →
          stepSeg s.pms r r.trailStep = some g → g.dst = n → leadSeg s.pms r = some g' → g'.kind ≠ .reverse →
          markLike s g'.dst = false → nodeKind s.pms g'.dst ≠ some .dest ∨ (stationOfNode s.pms g'.dst).isSome = true →
          runs (putRec { r with trailStep := r.trailStep + 1, trailExp := none } u)) ∧
        (trail = true → ¬crosses → passed r.trailStep → runs u) ∧
        (trail = true → ¬crosses → ¬passed r.trailStep → Room 1 s → runs error)

/-- The other parts of a good reply of an ONLINE station, one at a time (R70, R121, R148, R149, R157, R158): a final takes
the record out as DELIVERED, with its notice and its set told, in every path state in which that ends neither RUNNING nor a
run-out nor a clearance; one that names no record bound for the station is an error notice. A compile state sets its set's
count, at most the count handed off; DONE removes a closed set whose last member was handed off, and is an error notice for
any other, and so is a set that the station has not; the map as it stands says which station a set's is, which is the model's
(log 76). A jam flag is held, noticed on a change, and STATION at every reply in which it is set, where the station is in use
and sheets are driven. A reported cover is held; opened over a defined area it is COVER where sheets are driven. -/
def Obligations.RepliesCarry : Prop :=
  ∀ (x : Exchange) (lag : Nat) (s : State), Polled s x →
    let k := x.station
    let u := acknowledged x s
    let q := stationAt u k
    let runs (payload : List Byte) (t : State) : Prop := exec (.stationReply (replyFrame k payload) lag) s = .next t
    ((stationAt s k).jamFlag = false →
      (∀ sheet, sheet < 65536 →
        (Room 1 s → (∀ r, findRec s sheet = some r → stationOfNode s.pms (routeDest s.pms r.route) ≠ some k) →
          runs ([0x01, 0, 0] ++ u16 sheet) (noticed [.station k .online (.errorSheet sheet)] u)) ∧
        ∀ r, findRec s sheet = some r → stationOfNode s.pms (routeDest s.pms r.route) = some k → definedEntries s.pms.gates = [] →
          s.rcv.path ≠ .runout → (s.rcv.path = .running → ∃ y ∈ s.flt.list, y.sheet ≠ sheet) →
          (s.rcv.path = .clearing → s.clm.list ≠ [] ∧ r.disp ≠ some .remove) → Room 1 s →
          runs ([0x01, 0, 0] ++ u16 sheet) (noticed [.delivered sheet r.job r.ordinal (routeDest s.pms r.route)] { u with
            flt := { s.flt with list := s.flt.list.filter fun y => decide (y.sheet ≠ sheet) }
            rcv := { s.rcv with held := s.rcv.held.filter fun p => decide (p.1 ≠ sheet) }
            xlm := { u.xlm with sets := deliveredSets r s.xlm.sets } })) ∧
      (∀ (number count : Nat) (ejected : Bool), number < 65536 → count < 65536 →
        let payload := [0, if ejected then 0xC0 else 0x80, 0] ++ u16 number ++ u16 count
        let found := s.xlm.sets.find? fun e => e.number == number && stationOfNode s.pms e.dest == some k
        let error (t : State) : State := noticed [.station k .online (.errorSet number)] t
        (found = none → Room 1 s → runs payload (error u)) ∧
        ∀ e, found = some e →
          let sets := s.xlm.sets.map fun y => if y.slot = e.slot then { e with compiled := min count e.handedOff } else y
          let kept : State := { u with xlm := { u.xlm with sets := sets } }
          (ejected = false → runs payload kept) ∧
          (ejected = true → e.closed = true → e.lastSeen = true →
            runs payload { u with xlm := { u.xlm with sets := sets.filter fun y => decide (y.slot ≠ e.slot) } }) ∧
          (ejected = true → e.closed = false ∨ e.lastSeen = false → Room 1 s → runs payload (error kept))) ∧
      (∀ (c : Nat) (o : Bool), c < 4 →
        let payload := [0, 0] ++ u8 ((if o then 2 else 1) * 4 ^ (3 - c))
        let held : State := setStation k { q with covers := q.covers.set c o } u
        (q.covers[c]? = some o → runs payload u) ∧
        (q.covers[c]? = some (!o) →
          (areasOfCover s.pms (.station k c) = [] ∨ s.rcv.path = .config ∧ s.sfe.calib = none ∨ (o = false ∧ s.rcv.path ≠ .clearing) →
            runs payload held) ∧
          (areasOfCover s.pms (.station k c) ≠ [] → o = true → s.sfe.calib = none → Driven s → Room 1 s →
            runs payload (failed ⟨.cover, none, none, none, none, none, s.sys.now⟩ (areasOfCover s.pms (.station k c)) held))))) ∧
    (∀ area, area < 4 →
      let held := setStation k { q with jamFlag := true, jamArea := some area } u
      let told := noticed (if (stationAt s k).jamFlag then [] else [.station k .online (.jam true (some area))]) held
      (¬Driven s ∨ stationInUse s k = false → Room 1 s → runs ([0] ++ u8 (32 + area) ++ [0]) told) ∧
      (Driven s → stationInUse s k = true → Room 2 s → runs ([0] ++ u8 (32 + area) ++ [0])
        (failed ⟨.station, none, none, none, some (k : Int), some (area : Int), s.sys.now⟩ (stationAreas s.pms k area) told))) ∧
    ((stationAt s k).jamFlag = true → Room 1 s → runs [0, 0, 0]
      (noticed [.station k .online (.jam false none)] (setStation k { q with jamFlag := false } u)))

/-- BAD_REPLY and POLL_MISS (R117, R128, R156, R158, R159): the exchange ends; an ONLINE station's miss count rises, and at 3
it is LOST, its hand-offs dropped, with its notice, the listed NEEDED areas under its covers due for an immediate check, and,
when it is in use, with LINK_LOST as the first cause in RUNNING and the second in RUNOUT. A LOST station stays LOST. With no
POLL open nothing happens (log 5). What a set's destination counts for is the model's (log 76). -/
def Obligations.MissesCount : Prop :=
  ∀ (c : Instr) (s : State), Awake s → c = .badReply ∨ c = .pollMiss →
    (s.xlm.exchange = none → exec c s = .next s) ∧
    ∀ x, s.xlm.exchange = some x → 1 ≤ x.station → x.station ≤ 3 → s.xlm.stations.length = 3 →
      let k := x.station
      let q := stationAt s k
      let ended := setExchange none s
      let gone := setStation k { q with link := .lost, retry := 0, miss := 0, handOffs := [] } ended
      let lost : State := { gone with clm := { s.clm with due := stationDue s k } }
      (q.link ≠ .online → exec c s = .next ended) ∧
      (q.link = .online → q.miss < 2 → exec c s = .next (setStation k { q with miss := q.miss + 1 } ended)) ∧
      (q.link = .online → 2 ≤ q.miss →
        (¬Driven s ∨ stationInUse s k = false → Room 1 s →
          exec c s = .next (noticed [.station k .lost (.lost false)] lost)) ∧
        (Driven s → stationInUse s k = true → Room 2 s →
          exec c s = .next (failed ⟨.linkLost, none, none, none, some (k : Int), none, s.sys.now⟩ (linkAreas s.pms k)
            (noticed [.station k .lost (.lost false)] lost))))

/-- STATION_PRESENT and STATION_ABSENT (R117, R128, R153, R158, R161): a station that was absent comes ONLINE with its miss
count at 0 and its notice; one that was present goes ABSENT, its hand-offs dropped and its open POLL ended, with its notice,
the listed NEEDED areas under its covers due for an immediate check, and, when it is in use, with LINK_LOST as the first
cause in RUNNING and the second in RUNOUT. A line at the level the part holds already moves only the pin (log 5). That the
retry timer of an ABSENT station stands at 0 is the model's (log 59), and so is what a set's destination counts for (log
76). -/
def Obligations.PresenceFollows : Prop :=
  ∀ (k : Nat) (s : State), Awake s → 1 ≤ k → k ≤ 3 → s.xlm.stations.length = 3 →
    let q := stationAt s k
    let pin (v : Bool) : State := { s with pins := { s.pins with presence := s.pins.presence.set (k - 1) v } }
    (q.present = true → exec (.stationPresent k) s = .next (pin true)) ∧
    (q.present = false → Room 1 s → exec (.stationPresent k) s = .next (noticed [.station k .online .present]
      (setStation k { q with present := true, presenceCount := 0, link := .online, miss := 0 } (pin true)))) ∧
    (q.present = false → exec (.stationAbsent k) s = .next (pin false)) ∧
    (q.present = true →
      let gone := noticed [.station k .absent .absent]
        { setExchange (s.xlm.exchange.filter fun x => x.station != k)
          (setStation k { q with present := false, presenceCount := 0, link := .absent, miss := 0, retry := 0, handOffs := [] }
            (pin false)) with clm := { s.clm with due := stationDue s k } }
      (¬Driven s ∨ stationInUse s k = false → Room 1 s → exec (.stationAbsent k) s = .next gone) ∧
      (Driven s → stationInUse s k = true → Room 2 s → exec (.stationAbsent k) s = .next
        (failed ⟨.linkLost, none, none, none, some (k : Int), none, s.sys.now⟩ (linkAreas s.pms k) gone)))

/-! ## Supply and rows -/

/-- SUPPLY_WARN and SUPPLY_NORMAL (R101, R102, R117, R164, R165, R169): WARN is held with both timers at 0. In ARMED and
RUNNING POWER is the first cause, with no area; in RUNOUT it is the second, the dispositions are held back and every zone
halts; elsewhere nothing halts. With records or sets held and no row write to come, a snapshot with trigger POWER starts, its
copy taken after the halt. The SUPPLY notice comes last. NORMAL only posts its notice. SUPPLY_WARN in WARN and SUPPLY_NORMAL
in NORMAL move only the pin (log 5). -/
def Obligations.SupplyWatched : Prop :=
  ∀ s : State, Awake s →
    let pin (v : Bool) : State := { s with pins := { s.pins with supplyLow := v } }
    let warned (w : Bool) : State := { pin w with spm := { s.spm with warn := w, warnTimer := 0, recTimer := 0 } }
    let power : JamCause := ⟨.power, none, none, none, none, none, s.sys.now⟩
    let saved (u : State) : State := { u with spm := { u.spm with
      marker := false
      elapsed := 0
      ops := [⟨.snapshot .power s.flt.list.length s.xlm.sets.length s.rpq.queue.length, snapshotWrites .power u⟩] } }
    let nothing := s.flt.list = [] ∧ s.xlm.sets = []
    let jams := s.rcv.path = .armed ∨ s.rcv.path = .running
    (s.spm.warn = true → exec .supplyWarn s = .next (pin true)) ∧
    (s.spm.warn = false → jams → nothing → Room 2 s →
      exec .supplyWarn s = .next (noticed [.supply true false] (jammed power [] (warned true)))) ∧
    (s.spm.warn = false → jams → ¬nothing → s.spm.ops = [] → Room 2 s →
      exec .supplyWarn s = .next (noticed [.supply true true] (saved (jammed power [] (warned true))))) ∧
    (s.spm.warn = false → ¬jams → s.rcv.path ≠ .runout → s.rcv.jam.second = none → nothing → Room 1 s →
      exec .supplyWarn s = .next (noticed [.supply true false] (warned true))) ∧
    (s.spm.warn = false → ¬jams → s.rcv.path ≠ .runout → s.rcv.jam.second = none → ¬nothing → s.spm.ops = [] → Room 1 s →
      exec .supplyWarn s = .next (noticed [.supply true true] (saved (warned true)))) ∧
    (s.spm.warn = false → s.rcv.path = .runout → ∃ t, exec .supplyWarn s = .next t ∧ t.rcv.path = .halting ∧
      t.rcv.jam.first = s.rcv.jam.first ∧ t.rcv.jam.second = some power ∧ t.spm.warn = true ∧
      (∀ q ∈ t.zdu.zones, q.speed = 0 ∧ q.duty = 0) ∧ (∀ a < 12, a ∈ t.rcv.jam.areas ↔ a ∈ s.rcv.jam.areas) ∧
      t.flt.list = s.flt.list.map (fun r => { r with disp := none }) ∧
      t.rcv.held = s.flt.list.filterMap fun r => r.disp.map fun d => (r.sheet, if d = .retain then .retain else .remove)) ∧
    (s.spm.warn = true → Room 1 s → exec .supplyNormal s = .next (noticed [.supply false false] (warned false))) ∧
    (s.spm.warn = false → exec .supplyNormal s = .next (pin false))

/-- ROW_WRITE_END (R167, R169, R170, R174, R175): the row whose write ends holds its 16 bytes whole, COMPLETE in row 0 sets
the marker, and the next write begins, of this operation or of the next one, EMPTY in row 0 clearing the marker at its
beginning. The end of an operation brings the SNAPSHOT notice after POWER or the reply of the adoption or the drop; the end
of the last one a reset that waited, before a SNAP_DROP that waits too, which is the model's (log 38), and the end of the
last snapshot a SNAP_DROP that waited. With no write under way nothing happens (log 5). A write of 1.2 ms leaves what the
clock ran beyond it (log 1). -/
def Obligations.RowsEnd : Prop :=
  ∀ s : State, Awake s →
    let complete : List Byte := List.replicate 16 0xA5
    let empty : List Byte := List.replicate 16 0
    let written (i : Nat) (bs : List Byte) (ops : List RowOp) : Spm := { s.spm with
      rows := s.spm.rows.set i ⟨bs, true⟩
      marker := if i = 0 ∧ bs = complete then true else s.spm.marker
      elapsed := s.spm.elapsed - 12
      ops := ops }
    (s.spm.ops = [] → exec .rowWriteEnd s = .next s) ∧
    (∀ k i bs w ws rest, s.spm.ops = ⟨k, (i, bs) :: w :: ws⟩ :: rest →
      let p := written i bs (⟨k, w :: ws⟩ :: rest)
      exec .rowWriteEnd s = .next { s with spm := if w = (0, empty) then { p with marker := false } else p }) ∧
    (∀ k i bs rest, s.spm.ops = ⟨k, [(i, bs)]⟩ :: rest →
      (s.sys.resetWait = none ∧ (s.spm.dropWait = none ∨ writingSnapshot { s.spm with ops := rest } = true)) ∨
        (s.sys.resetWait ≠ none ∧ rest ≠ []) →
      let w := written i bs rest
      let t : State := { s with
        spm := if rest.head?.bind (·.writes.head?) = some (0, empty) then { w with marker := false } else w }
      (∀ n m x, k = .snapshot .power n m x → Room 1 s →
        exec .rowWriteEnd s = .next (noticed [.snapshot .power n m x] t)) ∧
      (∀ trigger n m x, k = .snapshot trigger n m x → trigger ≠ .power → exec .rowWriteEnd s = .next t) ∧
      (k = .invalidate → exec .rowWriteEnd s = .next t) ∧
      (∀ tag a b x, k = .adopt tag a b x →
        exec .rowWriteEnd s = .next (replied 0x51 tag .done false (u8 a ++ u8 b ++ u8 x) t)) ∧
      (∀ tag, k = .drop tag → exec .rowWriteEnd s = .next (replied 0x52 tag .done false [1] t))) ∧
    (∀ i bs n m x tag, s.spm.ops = [⟨.snapshot .power n m x, [(i, bs)]⟩] → s.sys.resetWait = none → s.spm.dropWait = some tag →
      Room 1 s →
      let w := written i bs []
      let told (t : State) : State := noticed [.snapshot .power n m x] t
      (w.marker = true → exec .rowWriteEnd s = .next (told { s with
        spm := { w with pendingMark := false, dropWait := none, marker := false, elapsed := 0
                        ops := [⟨.drop tag, [(0, empty)]⟩] }
        clk := { s.clk with reply := .forming 0x12 tag } })) ∧
      (w.marker = false → exec .rowWriteEnd s = .next (replied 0x52 tag .done false [0] (told { s with
        spm := { w with pendingMark := false, dropWait := none } })))) ∧
    (∀ k i bs trigger, s.spm.ops = [⟨k, [(i, bs)]⟩] → s.sys.resetWait = some trigger →
      ∃ t, exec .rowWriteEnd s = .next t ∧ t.sys.live = false ∧ t.rcv.path = .config ∧ t.flt.list = [] ∧
        t.sys.kind = (if trigger = .linkBreak then .linkBreak else .request) ∧ t.spm.rows = s.spm.rows.set i ⟨bs, true⟩)

/-! ## Invariants -/

/-- The state after reset keeps every capacity, and its path state governs the rest (R173, R49, R97). -/
def Obligations.ResetIsSound : Prop := Within State.reset ∧ Governed State.reset

/-- No step outgrows a store (R49, R133, R135, R145, R153, R155, R183), gives two records one sheet number (R52), changes the
size of a bank (the map's tables, the pins, the cover, feedback, node, zone, gate, area, station and row banks: R1, R121) or
gives a line's enable set a bit that is no source, or HALT's less than its forced four (R186), from every state within the
capacities. -/
def Obligations.CapacitiesKept : Prop :=
  ∀ s t : State, Within s → step s = .next t → Within t

/-- Every step keeps what the path state says of the rest (R97, R112, R122, R37, R46), from every state in which it holds:
dispositions in RUNOUT, CLEARING and RESUMABLE only and there on every record, no record in CONFIG and ARMED, an empty
clearance list outside CLEARING, every zone at 0 in HALTING, CLEARING and RESUMABLE, and the gate test in CONFIG only. -/
def Obligations.PathStateGoverns : Prop :=
  ∀ s t : State, Governed s → step s = .next t → Governed t

/-- What no step touches (R2, R167, R183): the map outside CONFIG while the part runs; the rows of the snapshot area but at a
row write's end and at a reset that cuts one off; and the notices that wait, which a step only adds to, unless it sends the
oldest. -/
def Obligations.StepsLeaveAlone : Prop :=
  ∀ s t : State, step s = .next t →
    (s.rcv.path ≠ .config → t.sys.live = true → t.pms = s.pms) ∧
    ((∀ c, s.pending.head? = some c → writesRows c = false) → t.spm.rows = s.spm.rows) ∧
    (s.pending.head? ≠ some .transmitEnd → t.sys.live = true → s.clk.notices <+: t.clk.notices)
end

