-- ==== Sys2Proof/Laws/ArmTable.lean ====
section
/-! SUPPORT. The checks of ARM as the model computes them are the lines of R17's table (`armTable` of Safety.lean), one by one and in
its order. -/

namespace Sys2Proof.Machine

/-- A computed check is a line of the table. -/
def SameCheck (c : Check) (a : ArmCheck) : Prop :=
  c.table = a.table ∧ c.index = a.index ∧ c.code = a.code ∧ (c.holds = true ↔ a.holds)

theorem mem_definedEntries {α : Type} (t : List (Option α)) (i : Nat) (e : α) :
    (i, e) ∈ definedEntries t ↔ entryAt t i = some e := by
  unfold definedEntries
  simp only [List.mem_filterMap, List.mem_range, Option.map_eq_some_iff, Prod.mk.injEq]
  constructor
  · rintro ⟨j, -, x, hx, rfl, rfl⟩; exact hx
  · intro h
    refine ⟨i, ?_, e, h, rfl, rfl⟩
    by_contra hn
    simp [entryAt, List.getElem?_eq_none (Nat.le_of_not_lt hn)] at h

theorem endOf_eq (m : MapStore) (steps : List Nat) : endOf m steps = (segAt m steps (steps.length - 1)).map (·.dst) := by
  simp [endOf, segAt, List.getLast?_eq_getElem?]

theorem endsAtPurgeBin_iff (m : MapStore) (steps : List Nat) : endsAtPurgeBin m steps = true ↔ EndsAtBin m steps := by
  simp only [endsAtPurgeBin, endOf_eq, EndsAtBin, isPurgeBin, Option.any_map]
  cases segAt m steps (steps.length - 1) <;> simp [Option.any_eq_true]

theorem segPairs_forall (m : MapStore) (steps : List Nat) (p : SegEntry × Nat × SegEntry → Bool) :
    (segPairs m steps).all p = true ↔ ∀ k a b i, segAt m steps k = some a → steps[k + 1]? = some i → m.seg? i = some b →
      p (a, i, b) = true := by
  simp only [segPairs, stepPairs, List.all_eq_true, List.mem_filterMap, Option.bind_eq_some_iff, Option.map_eq_some_iff, segAt,
    Nat.sub_self, List.drop_zero]
  constructor
  · intro h k a b i ha hi hb
    obtain ⟨x, hx, hxa⟩ := ha
    refine h _ ⟨(x, i), ?_, a, hxa, b, hb, rfl⟩
    rw [List.mem_iff_getElem?]
    exact ⟨k, by simp [List.getElem?_zip_eq_some, hx, hi]⟩
  · rintro h _ ⟨⟨x, i⟩, hm, a, ha, b, hb, rfl⟩
    rw [List.mem_iff_getElem?] at hm
    obtain ⟨k, hk⟩ := hm
    simp only [List.getElem?_zip_eq_some, List.getElem?_tail] at hk
    exact h k a b i ⟨x, hk.1, ha⟩ hk.2 hb

theorem dropLast_forall (steps : List Nat) (p : Nat → Bool) :
    steps.dropLast.all p = true ↔ ∀ k i, k + 1 < steps.length → steps[k]? = some i → p i = true := by
  simp only [List.all_eq_true, List.mem_iff_getElem?, List.getElem?_dropLast]
  constructor
  · intro h k i hk hi
    exact h i ⟨k, by rw [if_pos (by omega)]; exact hi⟩
  · rintro h i ⟨k, hk⟩
    split at hk
    · exact h k i (by omega) hk
    · cases hk

theorem checkNode_same (m : MapStore) (n : Nat) (e : NodeEntry) : List.Forall₂ SameCheck (checkNode m n e) (armNodes m n e) := by
  refine .cons ⟨rfl, rfl, rfl, by simp [Option.isSome_iff_ne_none]⟩ (.cons ⟨rfl, rfl, rfl, ?_⟩ .nil)
  simp only [Bool.or_eq_true, bne_iff_ne, List.any_eq_true, beq_iff_eq, Prod.exists, mem_definedEntries, MapStore.seg?]
  exact ⟨fun h k => h.resolve_left (fun x => x k), fun h => or_iff_not_imp_left.2 fun x => h (not_not.1 x)⟩

theorem checkSeg_same (m : MapStore) (i : Nat) (e : SegEntry) : List.Forall₂ SameCheck (checkSeg m i e) (armSegs m i e) := by
  refine .cons ⟨rfl, rfl, rfl, ?_⟩ (.cons ⟨rfl, rfl, rfl, ?_⟩ (.cons ⟨rfl, rfl, rfl, ?_⟩ ?_))
  · simp [Option.isSome_iff_ne_none, and_assoc]
  · simp only [List.all_eq_true, Prod.forall, mem_definedEntries, Bool.or_eq_true, decide_eq_true_eq, bne_iff_ne, beq_iff_eq,
      MapStore.seg?]
    constructor
    · intro h j q hj hq hd
      rcases h j q hq with (h | h) | h
      · omega
      · exact absurd hd h
      · exact h
    · intro h j q hq
      by_cases hj : i ≤ j
      · exact .inl (.inl hj)
      · by_cases hd : q.dst = e.dst
        · exact .inr (h j q (by omega) hq hd)
        · exact .inl (.inr hd)
  · simp [remoteKindHolds, Option.isSome_iff_ne_none, or_iff_not_imp_left]
  · unfold checkPurge
    cases e.purgeRoute with
    | none => exact .nil
    | some p =>
      refine .cons ⟨rfl, rfl, rfl, by simp [Option.isSome_iff_ne_none]⟩ (.cons ⟨rfl, rfl, rfl, ?_⟩
        (.cons ⟨rfl, rfl, rfl, endsAtPurgeBin_iff _ _⟩ (.cons ⟨rfl, rfl, rfl, by simp⟩ .nil)))
      simp [Option.any_eq_true]

theorem checkRoute_same (m : MapStore) (r : Nat) (e : RouteEntry) :
    List.Forall₂ SameCheck (checkRoute m r e) (armRoutes m r e) := by
  refine .cons ⟨rfl, rfl, rfl, ?_⟩ (.cons ⟨rfl, rfl, rfl, ?_⟩ (.cons ⟨rfl, rfl, rfl, ?_⟩ (.cons ⟨rfl, rfl, rfl, ?_⟩
    (.cons ⟨rfl, rfl, rfl, ?_⟩ (.cons ⟨rfl, rfl, rfl, ?_⟩ (.cons ⟨rfl, rfl, rfl, ?_⟩ (.cons ⟨rfl, rfl, rfl, by simp⟩ .nil)))))))
  · simp [Option.isSome_iff_ne_none]
  · rcases e.steps with _ | ⟨a, rest⟩
    · simp [feedPlaced, segAt]
    · simp only [feedPlaced, segAt, Bool.and_eq_true, Option.any_eq_true, List.all_eq_true, List.mem_iff_getElem?,
        List.getElem?_cons_zero, List.getElem?_cons_succ, Option.bind_some, Option.bind_eq_some_iff, beq_iff_eq, bne_iff_ne,
        Option.all_eq_true]
      refine and_congr Iff.rfl ⟨?_, ?_⟩
      · rintro h k a ⟨x, hx, ha⟩; exact h x ⟨k, hx⟩ a ha
      · rintro h x ⟨k, hx⟩ a ha; exact h k a ⟨x, hx, ha⟩
  · simp only [connected, segPairs_forall, beq_iff_eq]
    constructor
    · intro h k a b ha hb
      obtain ⟨i, hi, hb⟩ := Option.bind_eq_some_iff.1 hb
      exact h k a b i ha hi hb
    · intro h k a b i ha hi hb
      exact h k a b ha (Option.bind_eq_some_iff.2 ⟨i, hi, hb⟩)
  · simp only [endsAtDest, endOf_eq, Bool.and_eq_true, Option.any_map, Option.any_eq_true, dropLast_forall,
      beq_iff_eq, Option.all_eq_true, bne_iff_ne, segAt, Option.bind_eq_some_iff]
    refine and_congr Iff.rfl ⟨?_, ?_⟩
    · rintro h k a hk ⟨x, hx, ha⟩; exact h k x hk hx a ha
    · rintro h k x hk hx a ha; exact h k a hk ⟨x, hx, ha⟩
  · rw [beq_iff_eq, ← endsAtPurgeBin_iff, Bool.eq_iff_iff]
  · rw [gatesBranch, segPairs_forall]
    simp only [List.all_eq_true, Prod.forall, mem_definedEntries, Bool.or_eq_true, bne_iff_ne,
      beq_iff_eq, MapStore.gate?]
    constructor
    · intro h k a b i g q ha hi hb hg hn
      rcases h k a b i ha hi hb g q hg with (h | h) | h
      · exact absurd hn h
      · exact .inl h
      · exact .inr h
    · intro h k a b i ha hi hb g q hg
      by_cases hn : q.node = a.dst
      · rcases h k a b i g q ha hi hb hg hn with h | h
        · exact .inl (.inr h)
        · exact .inr h
      · exact .inl (.inl hn)
  · simp [leavesReverse, segAt, List.getLast?_eq_getElem?, Option.all_eq_true]

theorem checkGate_same (m : MapStore) (g : Nat) (e : GateEntry) : List.Forall₂ SameCheck (checkGate m g e) (armGates m g e) := by
  refine .cons ⟨rfl, rfl, rfl, ?_⟩ (.cons ⟨rfl, rfl, rfl, ?_⟩ .nil)
  · simp [Option.isSome_iff_ne_none, and_assoc]
  · simp only [Bool.and_eq_true, Option.any_eq_true, beq_iff_eq]
    constructor
    · rintro ⟨⟨a, ha, h⟩, b, hb, h'⟩; exact ⟨a, b, ha, hb, h, h'⟩
    · rintro ⟨a, b, ha, hb, h, h'⟩; exact ⟨⟨a, ha, h⟩, b, hb, h'⟩

theorem flatMap_same {α : Type} (f : α → List Check) (g : α → List ArmCheck) (h : ∀ x, List.Forall₂ SameCheck (f x) (g x))
    (l : List α) : List.Forall₂ SameCheck (l.flatMap f) (l.flatMap g) := by
  induction l with
  | nil => exact .nil
  | cons x xs ih => simpa using List.rel_append (h x) ih

/-- The model's checks are R17's table, check by check. -/
theorem mapChecks_same (m : MapStore) : List.Forall₂ SameCheck (mapChecks m) (armTable m) := by
  unfold mapChecks armTable
  refine List.rel_append (List.rel_append (List.rel_append (List.rel_append (List.rel_append ?_ ?_) ?_) ?_) ?_) ?_
  · exact .cons ⟨rfl, rfl, rfl, by simp [Option.isSome_iff_ne_none]⟩ .nil
  · exact flatMap_same (α := Nat × NodeEntry) _ _ (fun x => checkNode_same m x.1 x.2) _
  · exact flatMap_same (α := Nat × SegEntry) _ _ (fun x => checkSeg_same m x.1 x.2) _
  · exact flatMap_same (α := Nat × RouteEntry) _ _ (fun x => checkRoute_same m x.1 x.2) _
  · exact flatMap_same (α := Nat × GateEntry) _ _ (fun x => checkGate_same m x.1 x.2) _
  · exact .cons ⟨rfl, rfl, rfl, by simp [Option.isSome_iff_ne_none]⟩ .nil

theorem armTable_holds {m : MapStore} (h : ∀ c ∈ mapChecks m, c.holds = true) : ∀ c ∈ armTable m, c.holds := by
  intro a ha
  obtain ⟨i, hi⟩ := List.mem_iff_getElem?.1 ha
  have hl := (mapChecks_same m).length_eq
  have hi' : i < (mapChecks m).length := hl ▸ (List.getElem?_eq_some_iff.1 hi).1
  obtain ⟨_, rfl⟩ := List.getElem?_eq_some_iff.1 hi
  exact ((List.Forall₂.get (mapChecks_same m) hi' _).2.2.2).1 (h _ (List.getElem_mem _))

/-- The first line that fails is the first check that fails. -/
theorem armTable_fails {cs pre post : List Check} {c : Check} {as : List ArmCheck} (h : List.Forall₂ SameCheck cs as)
    (hs : cs = pre ++ c :: post) (hp : ∀ x ∈ pre, x.holds = true) (hc : c.holds = false) :
    ∃ pre' a post', as = pre' ++ a :: post' ∧ (∀ x ∈ pre', x.holds) ∧ ¬a.holds ∧ SameCheck c a := by
  subst hs
  induction pre generalizing as with
  | nil =>
    cases h with
    | cons hca hr => exact ⟨[], _, _, rfl, by simp, fun ha => by simpa [hc] using hca.2.2.2.2 ha, hca⟩
  | cons x xs ih =>
    cases h with
    | cons hxa hr =>
      obtain ⟨pre', a, post', rfl, h1, h2, h3⟩ := ih (fun y hy => hp y (List.mem_cons_of_mem _ hy)) hr
      exact ⟨_ :: pre', a, post', rfl, by simpa using ⟨hxa.2.2.2.1 (hp x (List.mem_cons_self ..)), h1⟩, h2, h3⟩

end Sys2Proof.Machine
end

