-- ==== Sys2Proof/Laws/State.lean ====
section
/-! SUPPORT. One lemma per block and field for each single update of the state, all true by definition. -/

namespace Sys2Proof.Machine

variable (s : State)

@[simp] theorem setZone_pms (z : Nat) (v : ZoneState) : (setZone z v s).pms = s.pms := rfl
@[simp] theorem setZone_sfe (z : Nat) (v : ZoneState) : (setZone z v s).sfe = s.sfe := rfl
@[simp] theorem setZone_zdu_zones (z : Nat) (v : ZoneState) : (setZone z v s).zdu.zones = s.zdu.zones.set z v := rfl
@[simp] theorem setZone_zdu_quiet (z : Nat) (v : ZoneState) : (setZone z v s).zdu.quiet = s.zdu.quiet := rfl
@[simp] theorem setZone_zdu_gates (z : Nat) (v : ZoneState) : (setZone z v s).zdu.gates = s.zdu.gates := rfl
@[simp] theorem setZone_zdu_armTest (z : Nat) (v : ZoneState) : (setZone z v s).zdu.armTest = s.zdu.armTest := rfl
@[simp] theorem setZone_flt (z : Nat) (v : ZoneState) : (setZone z v s).flt = s.flt := rfl
@[simp] theorem setZone_rcv (z : Nat) (v : ZoneState) : (setZone z v s).rcv = s.rcv := rfl
@[simp] theorem setZone_clm (z : Nat) (v : ZoneState) : (setZone z v s).clm = s.clm := rfl
@[simp] theorem setZone_rpq (z : Nat) (v : ZoneState) : (setZone z v s).rpq = s.rpq := rfl
@[simp] theorem setZone_xlm (z : Nat) (v : ZoneState) : (setZone z v s).xlm = s.xlm := rfl
@[simp] theorem setZone_spm (z : Nat) (v : ZoneState) : (setZone z v s).spm = s.spm := rfl
@[simp] theorem setZone_clk (z : Nat) (v : ZoneState) : (setZone z v s).clk = s.clk := rfl
@[simp] theorem setZone_sys (z : Nat) (v : ZoneState) : (setZone z v s).sys = s.sys := rfl
@[simp] theorem setZone_pins (z : Nat) (v : ZoneState) : (setZone z v s).pins = s.pins := rfl
@[simp] theorem setZone_pending (z : Nat) (v : ZoneState) : (setZone z v s).pending = s.pending := rfl

@[simp] theorem setGate_pms (g : Nat) (v : GateState) : (setGate g v s).pms = s.pms := rfl
@[simp] theorem setGate_sfe (g : Nat) (v : GateState) : (setGate g v s).sfe = s.sfe := rfl
@[simp] theorem setGate_zdu_zones (g : Nat) (v : GateState) : (setGate g v s).zdu.zones = s.zdu.zones := rfl
@[simp] theorem setGate_zdu_quiet (g : Nat) (v : GateState) : (setGate g v s).zdu.quiet = s.zdu.quiet := rfl
@[simp] theorem setGate_zdu_gates (g : Nat) (v : GateState) : (setGate g v s).zdu.gates = s.zdu.gates.set g v := rfl
@[simp] theorem setGate_zdu_armTest (g : Nat) (v : GateState) : (setGate g v s).zdu.armTest = s.zdu.armTest := rfl
@[simp] theorem setGate_flt (g : Nat) (v : GateState) : (setGate g v s).flt = s.flt := rfl
@[simp] theorem setGate_rcv (g : Nat) (v : GateState) : (setGate g v s).rcv = s.rcv := rfl
@[simp] theorem setGate_clm (g : Nat) (v : GateState) : (setGate g v s).clm = s.clm := rfl
@[simp] theorem setGate_rpq (g : Nat) (v : GateState) : (setGate g v s).rpq = s.rpq := rfl
@[simp] theorem setGate_xlm (g : Nat) (v : GateState) : (setGate g v s).xlm = s.xlm := rfl
@[simp] theorem setGate_spm (g : Nat) (v : GateState) : (setGate g v s).spm = s.spm := rfl
@[simp] theorem setGate_clk (g : Nat) (v : GateState) : (setGate g v s).clk = s.clk := rfl
@[simp] theorem setGate_sys (g : Nat) (v : GateState) : (setGate g v s).sys = s.sys := rfl
@[simp] theorem setGate_pins (g : Nat) (v : GateState) : (setGate g v s).pins = s.pins := rfl
@[simp] theorem setGate_pending (g : Nat) (v : GateState) : (setGate g v s).pending = s.pending := rfl

@[simp] theorem setArmTest_pms (v : Option ArmTest) : (setArmTest v s).pms = s.pms := rfl
@[simp] theorem setArmTest_sfe (v : Option ArmTest) : (setArmTest v s).sfe = s.sfe := rfl
@[simp] theorem setArmTest_zdu_zones (v : Option ArmTest) : (setArmTest v s).zdu.zones = s.zdu.zones := rfl
@[simp] theorem setArmTest_zdu_quiet (v : Option ArmTest) : (setArmTest v s).zdu.quiet = s.zdu.quiet := rfl
@[simp] theorem setArmTest_zdu_gates (v : Option ArmTest) : (setArmTest v s).zdu.gates = s.zdu.gates := rfl
@[simp] theorem setArmTest_zdu_armTest (v : Option ArmTest) : (setArmTest v s).zdu.armTest = v := rfl
@[simp] theorem setArmTest_flt (v : Option ArmTest) : (setArmTest v s).flt = s.flt := rfl
@[simp] theorem setArmTest_rcv (v : Option ArmTest) : (setArmTest v s).rcv = s.rcv := rfl
@[simp] theorem setArmTest_clm (v : Option ArmTest) : (setArmTest v s).clm = s.clm := rfl
@[simp] theorem setArmTest_rpq (v : Option ArmTest) : (setArmTest v s).rpq = s.rpq := rfl
@[simp] theorem setArmTest_xlm (v : Option ArmTest) : (setArmTest v s).xlm = s.xlm := rfl
@[simp] theorem setArmTest_spm (v : Option ArmTest) : (setArmTest v s).spm = s.spm := rfl
@[simp] theorem setArmTest_clk (v : Option ArmTest) : (setArmTest v s).clk = s.clk := rfl
@[simp] theorem setArmTest_sys (v : Option ArmTest) : (setArmTest v s).sys = s.sys := rfl
@[simp] theorem setArmTest_pins (v : Option ArmTest) : (setArmTest v s).pins = s.pins := rfl
@[simp] theorem setArmTest_pending (v : Option ArmTest) : (setArmTest v s).pending = s.pending := rfl

@[simp] theorem setQuiet_pms (v : Nat) : (setQuiet v s).pms = s.pms := rfl
@[simp] theorem setQuiet_sfe (v : Nat) : (setQuiet v s).sfe = s.sfe := rfl
@[simp] theorem setQuiet_zdu_zones (v : Nat) : (setQuiet v s).zdu.zones = s.zdu.zones := rfl
@[simp] theorem setQuiet_zdu_quiet (v : Nat) : (setQuiet v s).zdu.quiet = v := rfl
@[simp] theorem setQuiet_zdu_gates (v : Nat) : (setQuiet v s).zdu.gates = s.zdu.gates := rfl
@[simp] theorem setQuiet_zdu_armTest (v : Nat) : (setQuiet v s).zdu.armTest = s.zdu.armTest := rfl
@[simp] theorem setQuiet_flt (v : Nat) : (setQuiet v s).flt = s.flt := rfl
@[simp] theorem setQuiet_rcv (v : Nat) : (setQuiet v s).rcv = s.rcv := rfl
@[simp] theorem setQuiet_clm (v : Nat) : (setQuiet v s).clm = s.clm := rfl
@[simp] theorem setQuiet_rpq (v : Nat) : (setQuiet v s).rpq = s.rpq := rfl
@[simp] theorem setQuiet_xlm (v : Nat) : (setQuiet v s).xlm = s.xlm := rfl
@[simp] theorem setQuiet_spm (v : Nat) : (setQuiet v s).spm = s.spm := rfl
@[simp] theorem setQuiet_clk (v : Nat) : (setQuiet v s).clk = s.clk := rfl
@[simp] theorem setQuiet_sys (v : Nat) : (setQuiet v s).sys = s.sys := rfl
@[simp] theorem setQuiet_pins (v : Nat) : (setQuiet v s).pins = s.pins := rfl
@[simp] theorem setQuiet_pending (v : Nat) : (setQuiet v s).pending = s.pending := rfl

@[simp] theorem setNode_pms (n : Nat) (v : NodeState) : (setNode n v s).pms = s.pms := rfl
@[simp] theorem setNode_sfe_nodes (n : Nat) (v : NodeState) : (setNode n v s).sfe.nodes = s.sfe.nodes.set n v := rfl
@[simp] theorem setNode_sfe_covers (n : Nat) (v : NodeState) : (setNode n v s).sfe.covers = s.sfe.covers := rfl
@[simp] theorem setNode_sfe_coverCount (n : Nat) (v : NodeState) : (setNode n v s).sfe.coverCount = s.sfe.coverCount := rfl
@[simp] theorem setNode_sfe_feedback (n : Nat) (v : NodeState) : (setNode n v s).sfe.feedback = s.sfe.feedback := rfl
@[simp] theorem setNode_sfe_feedbackRun (n : Nat) (v : NodeState) : (setNode n v s).sfe.feedbackRun = s.sfe.feedbackRun := rfl
@[simp] theorem setNode_sfe_calib (n : Nat) (v : NodeState) : (setNode n v s).sfe.calib = s.sfe.calib := rfl
@[simp] theorem setNode_zdu (n : Nat) (v : NodeState) : (setNode n v s).zdu = s.zdu := rfl
@[simp] theorem setNode_flt (n : Nat) (v : NodeState) : (setNode n v s).flt = s.flt := rfl
@[simp] theorem setNode_rcv (n : Nat) (v : NodeState) : (setNode n v s).rcv = s.rcv := rfl
@[simp] theorem setNode_clm (n : Nat) (v : NodeState) : (setNode n v s).clm = s.clm := rfl
@[simp] theorem setNode_rpq (n : Nat) (v : NodeState) : (setNode n v s).rpq = s.rpq := rfl
@[simp] theorem setNode_xlm (n : Nat) (v : NodeState) : (setNode n v s).xlm = s.xlm := rfl
@[simp] theorem setNode_spm (n : Nat) (v : NodeState) : (setNode n v s).spm = s.spm := rfl
@[simp] theorem setNode_clk (n : Nat) (v : NodeState) : (setNode n v s).clk = s.clk := rfl
@[simp] theorem setNode_sys (n : Nat) (v : NodeState) : (setNode n v s).sys = s.sys := rfl
@[simp] theorem setNode_pins (n : Nat) (v : NodeState) : (setNode n v s).pins = s.pins := rfl
@[simp] theorem setNode_pending (n : Nat) (v : NodeState) : (setNode n v s).pending = s.pending := rfl

@[simp] theorem setCalib_pms (v : Option Calibration) : (setCalib v s).pms = s.pms := rfl
@[simp] theorem setCalib_sfe_nodes (v : Option Calibration) : (setCalib v s).sfe.nodes = s.sfe.nodes := rfl
@[simp] theorem setCalib_sfe_covers (v : Option Calibration) : (setCalib v s).sfe.covers = s.sfe.covers := rfl
@[simp] theorem setCalib_sfe_coverCount (v : Option Calibration) : (setCalib v s).sfe.coverCount = s.sfe.coverCount := rfl
@[simp] theorem setCalib_sfe_feedback (v : Option Calibration) : (setCalib v s).sfe.feedback = s.sfe.feedback := rfl
@[simp] theorem setCalib_sfe_feedbackRun (v : Option Calibration) : (setCalib v s).sfe.feedbackRun = s.sfe.feedbackRun := rfl
@[simp] theorem setCalib_sfe_calib (v : Option Calibration) : (setCalib v s).sfe.calib = v := rfl
@[simp] theorem setCalib_zdu (v : Option Calibration) : (setCalib v s).zdu = s.zdu := rfl
@[simp] theorem setCalib_flt (v : Option Calibration) : (setCalib v s).flt = s.flt := rfl
@[simp] theorem setCalib_rcv (v : Option Calibration) : (setCalib v s).rcv = s.rcv := rfl
@[simp] theorem setCalib_clm (v : Option Calibration) : (setCalib v s).clm = s.clm := rfl
@[simp] theorem setCalib_rpq (v : Option Calibration) : (setCalib v s).rpq = s.rpq := rfl
@[simp] theorem setCalib_xlm (v : Option Calibration) : (setCalib v s).xlm = s.xlm := rfl
@[simp] theorem setCalib_spm (v : Option Calibration) : (setCalib v s).spm = s.spm := rfl
@[simp] theorem setCalib_clk (v : Option Calibration) : (setCalib v s).clk = s.clk := rfl
@[simp] theorem setCalib_sys (v : Option Calibration) : (setCalib v s).sys = s.sys := rfl
@[simp] theorem setCalib_pins (v : Option Calibration) : (setCalib v s).pins = s.pins := rfl
@[simp] theorem setCalib_pending (v : Option Calibration) : (setCalib v s).pending = s.pending := rfl

@[simp] theorem setArea_pms (a : Nat) (v : AreaState) : (setArea a v s).pms = s.pms := rfl
@[simp] theorem setArea_sfe (a : Nat) (v : AreaState) : (setArea a v s).sfe = s.sfe := rfl
@[simp] theorem setArea_zdu (a : Nat) (v : AreaState) : (setArea a v s).zdu = s.zdu := rfl
@[simp] theorem setArea_flt (a : Nat) (v : AreaState) : (setArea a v s).flt = s.flt := rfl
@[simp] theorem setArea_rcv (a : Nat) (v : AreaState) : (setArea a v s).rcv = s.rcv := rfl
@[simp] theorem setArea_clm_areas (a : Nat) (v : AreaState) : (setArea a v s).clm.areas = s.clm.areas.set a v := rfl
@[simp] theorem setArea_clm_list (a : Nat) (v : AreaState) : (setArea a v s).clm.list = s.clm.list := rfl
@[simp] theorem setArea_clm_due (a : Nat) (v : AreaState) : (setArea a v s).clm.due = s.clm.due := rfl
@[simp] theorem setArea_rpq (a : Nat) (v : AreaState) : (setArea a v s).rpq = s.rpq := rfl
@[simp] theorem setArea_xlm (a : Nat) (v : AreaState) : (setArea a v s).xlm = s.xlm := rfl
@[simp] theorem setArea_spm (a : Nat) (v : AreaState) : (setArea a v s).spm = s.spm := rfl
@[simp] theorem setArea_clk (a : Nat) (v : AreaState) : (setArea a v s).clk = s.clk := rfl
@[simp] theorem setArea_sys (a : Nat) (v : AreaState) : (setArea a v s).sys = s.sys := rfl
@[simp] theorem setArea_pins (a : Nat) (v : AreaState) : (setArea a v s).pins = s.pins := rfl
@[simp] theorem setArea_pending (a : Nat) (v : AreaState) : (setArea a v s).pending = s.pending := rfl

@[simp] theorem setClearance_pms (v : List Nat) : (setClearance v s).pms = s.pms := rfl
@[simp] theorem setClearance_sfe (v : List Nat) : (setClearance v s).sfe = s.sfe := rfl
@[simp] theorem setClearance_zdu (v : List Nat) : (setClearance v s).zdu = s.zdu := rfl
@[simp] theorem setClearance_flt (v : List Nat) : (setClearance v s).flt = s.flt := rfl
@[simp] theorem setClearance_rcv (v : List Nat) : (setClearance v s).rcv = s.rcv := rfl
@[simp] theorem setClearance_clm_areas (v : List Nat) : (setClearance v s).clm.areas = s.clm.areas := rfl
@[simp] theorem setClearance_clm_list (v : List Nat) : (setClearance v s).clm.list = v := rfl
@[simp] theorem setClearance_clm_due (v : List Nat) : (setClearance v s).clm.due = s.clm.due := rfl
@[simp] theorem setClearance_rpq (v : List Nat) : (setClearance v s).rpq = s.rpq := rfl
@[simp] theorem setClearance_xlm (v : List Nat) : (setClearance v s).xlm = s.xlm := rfl
@[simp] theorem setClearance_spm (v : List Nat) : (setClearance v s).spm = s.spm := rfl
@[simp] theorem setClearance_clk (v : List Nat) : (setClearance v s).clk = s.clk := rfl
@[simp] theorem setClearance_sys (v : List Nat) : (setClearance v s).sys = s.sys := rfl
@[simp] theorem setClearance_pins (v : List Nat) : (setClearance v s).pins = s.pins := rfl
@[simp] theorem setClearance_pending (v : List Nat) : (setClearance v s).pending = s.pending := rfl

@[simp] theorem setDue_pms (v : List Nat) : (setDue v s).pms = s.pms := rfl
@[simp] theorem setDue_sfe (v : List Nat) : (setDue v s).sfe = s.sfe := rfl
@[simp] theorem setDue_zdu (v : List Nat) : (setDue v s).zdu = s.zdu := rfl
@[simp] theorem setDue_flt (v : List Nat) : (setDue v s).flt = s.flt := rfl
@[simp] theorem setDue_rcv (v : List Nat) : (setDue v s).rcv = s.rcv := rfl
@[simp] theorem setDue_clm_areas (v : List Nat) : (setDue v s).clm.areas = s.clm.areas := rfl
@[simp] theorem setDue_clm_list (v : List Nat) : (setDue v s).clm.list = s.clm.list := rfl
@[simp] theorem setDue_clm_due (v : List Nat) : (setDue v s).clm.due = v := rfl
@[simp] theorem setDue_rpq (v : List Nat) : (setDue v s).rpq = s.rpq := rfl
@[simp] theorem setDue_xlm (v : List Nat) : (setDue v s).xlm = s.xlm := rfl
@[simp] theorem setDue_spm (v : List Nat) : (setDue v s).spm = s.spm := rfl
@[simp] theorem setDue_clk (v : List Nat) : (setDue v s).clk = s.clk := rfl
@[simp] theorem setDue_sys (v : List Nat) : (setDue v s).sys = s.sys := rfl
@[simp] theorem setDue_pins (v : List Nat) : (setDue v s).pins = s.pins := rfl
@[simp] theorem setDue_pending (v : List Nat) : (setDue v s).pending = s.pending := rfl

@[simp] theorem setStation_pms (k : Nat) (v : StationState) : (setStation k v s).pms = s.pms := rfl
@[simp] theorem setStation_sfe (k : Nat) (v : StationState) : (setStation k v s).sfe = s.sfe := rfl
@[simp] theorem setStation_zdu (k : Nat) (v : StationState) : (setStation k v s).zdu = s.zdu := rfl
@[simp] theorem setStation_flt (k : Nat) (v : StationState) : (setStation k v s).flt = s.flt := rfl
@[simp] theorem setStation_rcv (k : Nat) (v : StationState) : (setStation k v s).rcv = s.rcv := rfl
@[simp] theorem setStation_clm (k : Nat) (v : StationState) : (setStation k v s).clm = s.clm := rfl
@[simp] theorem setStation_rpq (k : Nat) (v : StationState) : (setStation k v s).rpq = s.rpq := rfl
@[simp] theorem setStation_xlm_sets (k : Nat) (v : StationState) : (setStation k v s).xlm.sets = s.xlm.sets := rfl
@[simp] theorem setStation_xlm_stations (k : Nat) (v : StationState) : (setStation k v s).xlm.stations = s.xlm.stations.set (k - 1) v := rfl
@[simp] theorem setStation_xlm_lastPolled (k : Nat) (v : StationState) : (setStation k v s).xlm.lastPolled = s.xlm.lastPolled := rfl
@[simp] theorem setStation_xlm_slot (k : Nat) (v : StationState) : (setStation k v s).xlm.slot = s.xlm.slot := rfl
@[simp] theorem setStation_xlm_pollChars (k : Nat) (v : StationState) : (setStation k v s).xlm.pollChars = s.xlm.pollChars := rfl
@[simp] theorem setStation_xlm_exchange (k : Nat) (v : StationState) : (setStation k v s).xlm.exchange = s.xlm.exchange := rfl
@[simp] theorem setStation_spm (k : Nat) (v : StationState) : (setStation k v s).spm = s.spm := rfl
@[simp] theorem setStation_clk (k : Nat) (v : StationState) : (setStation k v s).clk = s.clk := rfl
@[simp] theorem setStation_sys (k : Nat) (v : StationState) : (setStation k v s).sys = s.sys := rfl
@[simp] theorem setStation_pins (k : Nat) (v : StationState) : (setStation k v s).pins = s.pins := rfl
@[simp] theorem setStation_pending (k : Nat) (v : StationState) : (setStation k v s).pending = s.pending := rfl

@[simp] theorem setSets_pms (v : List SetEntry) : (setSets v s).pms = s.pms := rfl
@[simp] theorem setSets_sfe (v : List SetEntry) : (setSets v s).sfe = s.sfe := rfl
@[simp] theorem setSets_zdu (v : List SetEntry) : (setSets v s).zdu = s.zdu := rfl
@[simp] theorem setSets_flt (v : List SetEntry) : (setSets v s).flt = s.flt := rfl
@[simp] theorem setSets_rcv (v : List SetEntry) : (setSets v s).rcv = s.rcv := rfl
@[simp] theorem setSets_clm (v : List SetEntry) : (setSets v s).clm = s.clm := rfl
@[simp] theorem setSets_rpq (v : List SetEntry) : (setSets v s).rpq = s.rpq := rfl
@[simp] theorem setSets_xlm_sets (v : List SetEntry) : (setSets v s).xlm.sets = v := rfl
@[simp] theorem setSets_xlm_stations (v : List SetEntry) : (setSets v s).xlm.stations = s.xlm.stations := rfl
@[simp] theorem setSets_xlm_lastPolled (v : List SetEntry) : (setSets v s).xlm.lastPolled = s.xlm.lastPolled := rfl
@[simp] theorem setSets_xlm_slot (v : List SetEntry) : (setSets v s).xlm.slot = s.xlm.slot := rfl
@[simp] theorem setSets_xlm_pollChars (v : List SetEntry) : (setSets v s).xlm.pollChars = s.xlm.pollChars := rfl
@[simp] theorem setSets_xlm_exchange (v : List SetEntry) : (setSets v s).xlm.exchange = s.xlm.exchange := rfl
@[simp] theorem setSets_spm (v : List SetEntry) : (setSets v s).spm = s.spm := rfl
@[simp] theorem setSets_clk (v : List SetEntry) : (setSets v s).clk = s.clk := rfl
@[simp] theorem setSets_sys (v : List SetEntry) : (setSets v s).sys = s.sys := rfl
@[simp] theorem setSets_pins (v : List SetEntry) : (setSets v s).pins = s.pins := rfl
@[simp] theorem setSets_pending (v : List SetEntry) : (setSets v s).pending = s.pending := rfl

@[simp] theorem setExchange_pms (v : Option Exchange) : (setExchange v s).pms = s.pms := rfl
@[simp] theorem setExchange_sfe (v : Option Exchange) : (setExchange v s).sfe = s.sfe := rfl
@[simp] theorem setExchange_zdu (v : Option Exchange) : (setExchange v s).zdu = s.zdu := rfl
@[simp] theorem setExchange_flt (v : Option Exchange) : (setExchange v s).flt = s.flt := rfl
@[simp] theorem setExchange_rcv (v : Option Exchange) : (setExchange v s).rcv = s.rcv := rfl
@[simp] theorem setExchange_clm (v : Option Exchange) : (setExchange v s).clm = s.clm := rfl
@[simp] theorem setExchange_rpq (v : Option Exchange) : (setExchange v s).rpq = s.rpq := rfl
@[simp] theorem setExchange_xlm_sets (v : Option Exchange) : (setExchange v s).xlm.sets = s.xlm.sets := rfl
@[simp] theorem setExchange_xlm_stations (v : Option Exchange) : (setExchange v s).xlm.stations = s.xlm.stations := rfl
@[simp] theorem setExchange_xlm_lastPolled (v : Option Exchange) : (setExchange v s).xlm.lastPolled = s.xlm.lastPolled := rfl
@[simp] theorem setExchange_xlm_slot (v : Option Exchange) : (setExchange v s).xlm.slot = s.xlm.slot := rfl
@[simp] theorem setExchange_xlm_pollChars (v : Option Exchange) : (setExchange v s).xlm.pollChars = s.xlm.pollChars := rfl
@[simp] theorem setExchange_xlm_exchange (v : Option Exchange) : (setExchange v s).xlm.exchange = v := rfl
@[simp] theorem setExchange_spm (v : Option Exchange) : (setExchange v s).spm = s.spm := rfl
@[simp] theorem setExchange_clk (v : Option Exchange) : (setExchange v s).clk = s.clk := rfl
@[simp] theorem setExchange_sys (v : Option Exchange) : (setExchange v s).sys = s.sys := rfl
@[simp] theorem setExchange_pins (v : Option Exchange) : (setExchange v s).pins = s.pins := rfl
@[simp] theorem setExchange_pending (v : Option Exchange) : (setExchange v s).pending = s.pending := rfl

@[simp] theorem setList_pms (v : List Record) : (setList v s).pms = s.pms := rfl
@[simp] theorem setList_sfe (v : List Record) : (setList v s).sfe = s.sfe := rfl
@[simp] theorem setList_zdu (v : List Record) : (setList v s).zdu = s.zdu := rfl
@[simp] theorem setList_flt_list (v : List Record) : (setList v s).flt.list = v := rfl
@[simp] theorem setList_flt_counter (v : List Record) : (setList v s).flt.counter = s.flt.counter := rfl
@[simp] theorem setList_rcv (v : List Record) : (setList v s).rcv = s.rcv := rfl
@[simp] theorem setList_clm (v : List Record) : (setList v s).clm = s.clm := rfl
@[simp] theorem setList_rpq (v : List Record) : (setList v s).rpq = s.rpq := rfl
@[simp] theorem setList_xlm (v : List Record) : (setList v s).xlm = s.xlm := rfl
@[simp] theorem setList_spm (v : List Record) : (setList v s).spm = s.spm := rfl
@[simp] theorem setList_clk (v : List Record) : (setList v s).clk = s.clk := rfl
@[simp] theorem setList_sys (v : List Record) : (setList v s).sys = s.sys := rfl
@[simp] theorem setList_pins (v : List Record) : (setList v s).pins = s.pins := rfl
@[simp] theorem setList_pending (v : List Record) : (setList v s).pending = s.pending := rfl

@[simp] theorem setPath_pms (v : PathState) : (setPath v s).pms = s.pms := rfl
@[simp] theorem setPath_sfe (v : PathState) : (setPath v s).sfe = s.sfe := rfl
@[simp] theorem setPath_zdu (v : PathState) : (setPath v s).zdu = s.zdu := rfl
@[simp] theorem setPath_flt (v : PathState) : (setPath v s).flt = s.flt := rfl
@[simp] theorem setPath_rcv_path (v : PathState) : (setPath v s).rcv.path = v := rfl
@[simp] theorem setPath_rcv_jam (v : PathState) : (setPath v s).rcv.jam = s.rcv.jam := rfl
@[simp] theorem setPath_rcv_held (v : PathState) : (setPath v s).rcv.held = s.rcv.held := rfl
@[simp] theorem setPath_rcv_holdTravel (v : PathState) : (setPath v s).rcv.holdTravel = s.rcv.holdTravel := rfl
@[simp] theorem setPath_rcv_moment (v : PathState) : (setPath v s).rcv.moment = s.rcv.moment := rfl
@[simp] theorem setPath_clm (v : PathState) : (setPath v s).clm = s.clm := rfl
@[simp] theorem setPath_rpq (v : PathState) : (setPath v s).rpq = s.rpq := rfl
@[simp] theorem setPath_xlm (v : PathState) : (setPath v s).xlm = s.xlm := rfl
@[simp] theorem setPath_spm (v : PathState) : (setPath v s).spm = s.spm := rfl
@[simp] theorem setPath_clk (v : PathState) : (setPath v s).clk = s.clk := rfl
@[simp] theorem setPath_sys (v : PathState) : (setPath v s).sys = s.sys := rfl
@[simp] theorem setPath_pins (v : PathState) : (setPath v s).pins = s.pins := rfl
@[simp] theorem setPath_pending (v : PathState) : (setPath v s).pending = s.pending := rfl

@[simp] theorem setJam_pms (v : JamRecord) : (setJam v s).pms = s.pms := rfl
@[simp] theorem setJam_sfe (v : JamRecord) : (setJam v s).sfe = s.sfe := rfl
@[simp] theorem setJam_zdu (v : JamRecord) : (setJam v s).zdu = s.zdu := rfl
@[simp] theorem setJam_flt (v : JamRecord) : (setJam v s).flt = s.flt := rfl
@[simp] theorem setJam_rcv_path (v : JamRecord) : (setJam v s).rcv.path = s.rcv.path := rfl
@[simp] theorem setJam_rcv_jam (v : JamRecord) : (setJam v s).rcv.jam = v := rfl
@[simp] theorem setJam_rcv_held (v : JamRecord) : (setJam v s).rcv.held = s.rcv.held := rfl
@[simp] theorem setJam_rcv_holdTravel (v : JamRecord) : (setJam v s).rcv.holdTravel = s.rcv.holdTravel := rfl
@[simp] theorem setJam_rcv_moment (v : JamRecord) : (setJam v s).rcv.moment = s.rcv.moment := rfl
@[simp] theorem setJam_clm (v : JamRecord) : (setJam v s).clm = s.clm := rfl
@[simp] theorem setJam_rpq (v : JamRecord) : (setJam v s).rpq = s.rpq := rfl
@[simp] theorem setJam_xlm (v : JamRecord) : (setJam v s).xlm = s.xlm := rfl
@[simp] theorem setJam_spm (v : JamRecord) : (setJam v s).spm = s.spm := rfl
@[simp] theorem setJam_clk (v : JamRecord) : (setJam v s).clk = s.clk := rfl
@[simp] theorem setJam_sys (v : JamRecord) : (setJam v s).sys = s.sys := rfl
@[simp] theorem setJam_pins (v : JamRecord) : (setJam v s).pins = s.pins := rfl
@[simp] theorem setJam_pending (v : JamRecord) : (setJam v s).pending = s.pending := rfl

@[simp] theorem setHeld_pms (v : List (Nat × Disp)) : (setHeld v s).pms = s.pms := rfl
@[simp] theorem setHeld_sfe (v : List (Nat × Disp)) : (setHeld v s).sfe = s.sfe := rfl
@[simp] theorem setHeld_zdu (v : List (Nat × Disp)) : (setHeld v s).zdu = s.zdu := rfl
@[simp] theorem setHeld_flt (v : List (Nat × Disp)) : (setHeld v s).flt = s.flt := rfl
@[simp] theorem setHeld_rcv_path (v : List (Nat × Disp)) : (setHeld v s).rcv.path = s.rcv.path := rfl
@[simp] theorem setHeld_rcv_jam (v : List (Nat × Disp)) : (setHeld v s).rcv.jam = s.rcv.jam := rfl
@[simp] theorem setHeld_rcv_held (v : List (Nat × Disp)) : (setHeld v s).rcv.held = v := rfl
@[simp] theorem setHeld_rcv_holdTravel (v : List (Nat × Disp)) : (setHeld v s).rcv.holdTravel = s.rcv.holdTravel := rfl
@[simp] theorem setHeld_rcv_moment (v : List (Nat × Disp)) : (setHeld v s).rcv.moment = s.rcv.moment := rfl
@[simp] theorem setHeld_clm (v : List (Nat × Disp)) : (setHeld v s).clm = s.clm := rfl
@[simp] theorem setHeld_rpq (v : List (Nat × Disp)) : (setHeld v s).rpq = s.rpq := rfl
@[simp] theorem setHeld_xlm (v : List (Nat × Disp)) : (setHeld v s).xlm = s.xlm := rfl
@[simp] theorem setHeld_spm (v : List (Nat × Disp)) : (setHeld v s).spm = s.spm := rfl
@[simp] theorem setHeld_clk (v : List (Nat × Disp)) : (setHeld v s).clk = s.clk := rfl
@[simp] theorem setHeld_sys (v : List (Nat × Disp)) : (setHeld v s).sys = s.sys := rfl
@[simp] theorem setHeld_pins (v : List (Nat × Disp)) : (setHeld v s).pins = s.pins := rfl
@[simp] theorem setHeld_pending (v : List (Nat × Disp)) : (setHeld v s).pending = s.pending := rfl

@[simp] theorem setMoment_pms (v : Moment) : (setMoment v s).pms = s.pms := rfl
@[simp] theorem setMoment_sfe (v : Moment) : (setMoment v s).sfe = s.sfe := rfl
@[simp] theorem setMoment_zdu (v : Moment) : (setMoment v s).zdu = s.zdu := rfl
@[simp] theorem setMoment_flt (v : Moment) : (setMoment v s).flt = s.flt := rfl
@[simp] theorem setMoment_rcv_path (v : Moment) : (setMoment v s).rcv.path = s.rcv.path := rfl
@[simp] theorem setMoment_rcv_jam (v : Moment) : (setMoment v s).rcv.jam = s.rcv.jam := rfl
@[simp] theorem setMoment_rcv_held (v : Moment) : (setMoment v s).rcv.held = s.rcv.held := rfl
@[simp] theorem setMoment_rcv_holdTravel (v : Moment) : (setMoment v s).rcv.holdTravel = s.rcv.holdTravel := rfl
@[simp] theorem setMoment_rcv_moment (v : Moment) : (setMoment v s).rcv.moment = v := rfl
@[simp] theorem setMoment_clm (v : Moment) : (setMoment v s).clm = s.clm := rfl
@[simp] theorem setMoment_rpq (v : Moment) : (setMoment v s).rpq = s.rpq := rfl
@[simp] theorem setMoment_xlm (v : Moment) : (setMoment v s).xlm = s.xlm := rfl
@[simp] theorem setMoment_spm (v : Moment) : (setMoment v s).spm = s.spm := rfl
@[simp] theorem setMoment_clk (v : Moment) : (setMoment v s).clk = s.clk := rfl
@[simp] theorem setMoment_sys (v : Moment) : (setMoment v s).sys = s.sys := rfl
@[simp] theorem setMoment_pins (v : Moment) : (setMoment v s).pins = s.pins := rfl
@[simp] theorem setMoment_pending (v : Moment) : (setMoment v s).pending = s.pending := rfl

@[simp] theorem setRpq_pms (v : Rpq) : (setRpq v s).pms = s.pms := rfl
@[simp] theorem setRpq_sfe (v : Rpq) : (setRpq v s).sfe = s.sfe := rfl
@[simp] theorem setRpq_zdu (v : Rpq) : (setRpq v s).zdu = s.zdu := rfl
@[simp] theorem setRpq_flt (v : Rpq) : (setRpq v s).flt = s.flt := rfl
@[simp] theorem setRpq_rcv (v : Rpq) : (setRpq v s).rcv = s.rcv := rfl
@[simp] theorem setRpq_clm (v : Rpq) : (setRpq v s).clm = s.clm := rfl
@[simp] theorem setRpq_rpq (v : Rpq) : (setRpq v s).rpq = v := rfl
@[simp] theorem setRpq_xlm (v : Rpq) : (setRpq v s).xlm = s.xlm := rfl
@[simp] theorem setRpq_spm (v : Rpq) : (setRpq v s).spm = s.spm := rfl
@[simp] theorem setRpq_clk (v : Rpq) : (setRpq v s).clk = s.clk := rfl
@[simp] theorem setRpq_sys (v : Rpq) : (setRpq v s).sys = s.sys := rfl
@[simp] theorem setRpq_pins (v : Rpq) : (setRpq v s).pins = s.pins := rfl
@[simp] theorem setRpq_pending (v : Rpq) : (setRpq v s).pending = s.pending := rfl

@[simp] theorem setSpm_pms (v : Spm) : (setSpm v s).pms = s.pms := rfl
@[simp] theorem setSpm_sfe (v : Spm) : (setSpm v s).sfe = s.sfe := rfl
@[simp] theorem setSpm_zdu (v : Spm) : (setSpm v s).zdu = s.zdu := rfl
@[simp] theorem setSpm_flt (v : Spm) : (setSpm v s).flt = s.flt := rfl
@[simp] theorem setSpm_rcv (v : Spm) : (setSpm v s).rcv = s.rcv := rfl
@[simp] theorem setSpm_clm (v : Spm) : (setSpm v s).clm = s.clm := rfl
@[simp] theorem setSpm_rpq (v : Spm) : (setSpm v s).rpq = s.rpq := rfl
@[simp] theorem setSpm_xlm (v : Spm) : (setSpm v s).xlm = s.xlm := rfl
@[simp] theorem setSpm_spm (v : Spm) : (setSpm v s).spm = v := rfl
@[simp] theorem setSpm_clk (v : Spm) : (setSpm v s).clk = s.clk := rfl
@[simp] theorem setSpm_sys (v : Spm) : (setSpm v s).sys = s.sys := rfl
@[simp] theorem setSpm_pins (v : Spm) : (setSpm v s).pins = s.pins := rfl
@[simp] theorem setSpm_pending (v : Spm) : (setSpm v s).pending = s.pending := rfl

@[simp] theorem setClk_pms (v : Clk) : (setClk v s).pms = s.pms := rfl
@[simp] theorem setClk_sfe (v : Clk) : (setClk v s).sfe = s.sfe := rfl
@[simp] theorem setClk_zdu (v : Clk) : (setClk v s).zdu = s.zdu := rfl
@[simp] theorem setClk_flt (v : Clk) : (setClk v s).flt = s.flt := rfl
@[simp] theorem setClk_rcv (v : Clk) : (setClk v s).rcv = s.rcv := rfl
@[simp] theorem setClk_clm (v : Clk) : (setClk v s).clm = s.clm := rfl
@[simp] theorem setClk_rpq (v : Clk) : (setClk v s).rpq = s.rpq := rfl
@[simp] theorem setClk_xlm (v : Clk) : (setClk v s).xlm = s.xlm := rfl
@[simp] theorem setClk_spm (v : Clk) : (setClk v s).spm = s.spm := rfl
@[simp] theorem setClk_clk (v : Clk) : (setClk v s).clk = v := rfl
@[simp] theorem setClk_sys (v : Clk) : (setClk v s).sys = s.sys := rfl
@[simp] theorem setClk_pins (v : Clk) : (setClk v s).pins = s.pins := rfl
@[simp] theorem setClk_pending (v : Clk) : (setClk v s).pending = s.pending := rfl

end Sys2Proof.Machine
end

