-- ==== Sys2Proof/Laws/Frame.lean ====
section
/-! SUPPORT. What the operations inside a command leave alone: the map, the pins, the queue of commands, the reset state and
the rows of the snapshot area; that notices only join the queue's tail; and that no store outgrows its capacity. One lemma for
each operation, so that no later proof unfolds it. -/

namespace Sys2Proof.Machine

/-- `s` as it would stand at a command's end: no REPRINT notice owed, no event underway. -/
abbrev ended (s : State) : State :=
  { s with rpq := { s.rpq with touched := false }, rcv := { s.rcv with moment := { s.rcv.moment with underway := false } } }

/-- What every operation inside a command keeps, from `s` to `t`. -/
structure Ordinary (s t : State) : Prop where
  pms : t.pms = s.pms
  pins : t.pins = s.pins
  pending : t.pending = s.pending
  sys : t.sys = s.sys
  rows : t.spm.rows = s.spm.rows
  rx : t.clk.rx = s.clk.rx
  deaf : t.clk.deaf = s.clk.deaf
  tx : t.clk.tx = s.clk.tx
  notices : s.clk.notices <+: t.clk.notices
  stores : Within (ended s) → Within (ended t)

namespace Ordinary

theorem refl (s : State) : Ordinary s s :=
  ⟨rfl, rfl, rfl, rfl, rfl, rfl, rfl, rfl, List.prefix_refl _, id⟩

theorem trans {s t u : State} (h : Ordinary s t) (k : Ordinary t u) : Ordinary s u :=
  ⟨k.pms.trans h.pms, k.pins.trans h.pins, k.pending.trans h.pending, k.sys.trans h.sys, k.rows.trans h.rows,
    k.rx.trans h.rx, k.deaf.trans h.deaf, k.tx.trans h.tx, h.notices.trans k.notices, fun w => k.stores (h.stores w)⟩

/-- `trans` with the last operation first. -/
theorem after {s t u : State} (k : Ordinary t u) (h : Ordinary s t) : Ordinary s u := h.trans k

theorem foldl {α : Type} {f : State → α → State} (h : ∀ s x, Ordinary s (f s x)) (l : List α) (s : State) :
    Ordinary s (l.foldl f s) := by
  induction l generalizing s with
  | nil => exact refl s
  | cons x xs ih => exact (h s x).trans (ih _)

end Ordinary

/-! ## Single updates -/

theorem setZone_ordinary (z : Nat) (v : ZoneState) (s : State) : Ordinary s (setZone z v s) :=
  ⟨rfl, rfl, rfl, rfl, rfl, rfl, rfl, rfl, List.prefix_refl _,
    fun w => { w with zones := by simpa using w.zones, owed := rfl, ended := rfl }⟩

theorem setGate_ordinary (g : Nat) (v : GateState) (s : State) : Ordinary s (setGate g v s) :=
  ⟨rfl, rfl, rfl, rfl, rfl, rfl, rfl, rfl, List.prefix_refl _,
    fun w => { w with gates := by simpa using w.gates, owed := rfl, ended := rfl }⟩

theorem setArmTest_ordinary (v : Option ArmTest) (s : State) : Ordinary s (setArmTest v s) :=
  ⟨rfl, rfl, rfl, rfl, rfl, rfl, rfl, rfl, List.prefix_refl _, fun w => { w with owed := rfl, ended := rfl }⟩

theorem setQuiet_ordinary (v : Nat) (s : State) : Ordinary s (setQuiet v s) :=
  ⟨rfl, rfl, rfl, rfl, rfl, rfl, rfl, rfl, List.prefix_refl _, fun w => { w with owed := rfl, ended := rfl }⟩

theorem setNode_ordinary (n : Nat) (v : NodeState) (s : State) : Ordinary s (setNode n v s) :=
  ⟨rfl, rfl, rfl, rfl, rfl, rfl, rfl, rfl, List.prefix_refl _,
    fun w => { w with nodes := by simpa using w.nodes, owed := rfl, ended := rfl }⟩

theorem setCalib_ordinary (v : Option Calibration) (s : State) : Ordinary s (setCalib v s) :=
  ⟨rfl, rfl, rfl, rfl, rfl, rfl, rfl, rfl, List.prefix_refl _, fun w => { w with owed := rfl, ended := rfl }⟩

theorem setArea_ordinary (a : Nat) (v : AreaState) (s : State) : Ordinary s (setArea a v s) :=
  ⟨rfl, rfl, rfl, rfl, rfl, rfl, rfl, rfl, List.prefix_refl _,
    fun w => { w with areas := by simpa using w.areas, owed := rfl, ended := rfl }⟩

theorem setClearance_ordinary (v : List Nat) (s : State) : Ordinary s (setClearance v s) :=
  ⟨rfl, rfl, rfl, rfl, rfl, rfl, rfl, rfl, List.prefix_refl _, fun w => { w with owed := rfl, ended := rfl }⟩

theorem setDue_ordinary (v : List Nat) (s : State) : Ordinary s (setDue v s) :=
  ⟨rfl, rfl, rfl, rfl, rfl, rfl, rfl, rfl, List.prefix_refl _, fun w => { w with owed := rfl, ended := rfl }⟩

theorem setExchange_ordinary (v : Option Exchange) (s : State) : Ordinary s (setExchange v s) :=
  ⟨rfl, rfl, rfl, rfl, rfl, rfl, rfl, rfl, List.prefix_refl _, fun w => { w with owed := rfl, ended := rfl }⟩

theorem setPath_ordinary (p : PathState) (s : State) : Ordinary s (setPath p s) :=
  ⟨rfl, rfl, rfl, rfl, rfl, rfl, rfl, rfl, List.prefix_refl _, fun w => { w with owed := rfl, ended := rfl }⟩

theorem setJam_ordinary (j : JamRecord) (s : State) : Ordinary s (setJam j s) :=
  ⟨rfl, rfl, rfl, rfl, rfl, rfl, rfl, rfl, List.prefix_refl _, fun w => { w with owed := rfl, ended := rfl }⟩

theorem setHeld_ordinary (h : List (Nat × Disp)) (s : State) : Ordinary s (setHeld h s) :=
  ⟨rfl, rfl, rfl, rfl, rfl, rfl, rfl, rfl, List.prefix_refl _, fun w => { w with owed := rfl, ended := rfl }⟩

theorem setMoment_ordinary (m : Moment) (s : State) : Ordinary s (setMoment m s) :=
  ⟨rfl, rfl, rfl, rfl, rfl, rfl, rfl, rfl, List.prefix_refl _, fun w => { w with owed := rfl, ended := rfl }⟩

/-- A flight list with some of the sheets as before, in their order. -/
theorem setList_ordinary {l : List Record} {s : State}
    (h : (l.map (·.sheet)).Sublist (s.flt.list.map (·.sheet))) : Ordinary s (setList l s) :=
  ⟨rfl, rfl, rfl, rfl, rfl, rfl, rfl, rfl, List.prefix_refl _,
    fun w => { w with
      records := (by simpa using h.length_le : l.length ≤ s.flt.list.length).trans w.records
      distinct := w.distinct.sublist h
      owed := rfl, ended := rfl }⟩

/-- Every record changed, none renumbered. -/
theorem mapList_ordinary (f : Record → Record) (hf : ∀ r, (f r).sheet = r.sheet) (s : State) :
    Ordinary s (setList (s.flt.list.map f) s) :=
  setList_ordinary (by simp [List.map_map, Function.comp_def, hf])

theorem putRec_ordinary (r : Record) (s : State) : Ordinary s (putRec r s) :=
  mapList_ordinary _ (fun q => by split <;> simp [*]) s

theorem dropRec_ordinary (n : Nat) (s : State) : Ordinary s (dropRec n s) :=
  setList_ordinary (List.filter_sublist.map _)

/-- A set table no longer than before. -/
theorem setSets_ordinary {l : List SetEntry} {s : State} (h : l.length ≤ s.xlm.sets.length) : Ordinary s (setSets l s) :=
  ⟨rfl, rfl, rfl, rfl, rfl, rfl, rfl, rfl, List.prefix_refl _,
    fun w => { w with sets := h.trans w.sets, owed := rfl, ended := rfl }⟩

theorem putSet_ordinary (e : SetEntry) (s : State) : Ordinary s (putSet e s) := setSets_ordinary (by simp)

theorem dropSet_ordinary (n : Nat) (s : State) : Ordinary s (dropSet n s) := setSets_ordinary (List.length_filter_le _ _)

/-- A reprint queue within its capacity when the one before it is. -/
theorem setRpq_ordinary {q : Rpq} {s : State} (h : s.rpq.queue.length ≤ 64 → q.queue.length ≤ 64) : Ordinary s (setRpq q s) :=
  ⟨rfl, rfl, rfl, rfl, rfl, rfl, rfl, rfl, List.prefix_refl _,
    fun w => { w with entries := h w.entries, owed := rfl, ended := rfl }⟩

/-- A supply block with the rows as they were. -/
theorem setSpm_ordinary {p : Spm} {s : State} (h : p.rows = s.spm.rows) : Ordinary s (setSpm p s) :=
  ⟨rfl, rfl, rfl, rfl, h, rfl, rfl, rfl, List.prefix_refl _,
    fun w => { w with rows := (congrArg List.length h).trans w.rows, owed := rfl, ended := rfl }⟩

/-- A station whose queues and covers are within their capacities when the ones before them are. -/
theorem setStation_ordinary {k : Nat} {v : StationState} {s : State}
    (h : (stationAt s k).handOffs.length ≤ 4 → v.handOffs.length ≤ 4)
    (c : (stationAt s k).cancels.length ≤ 8 → v.cancels.length ≤ 8)
    (o : (stationAt s k).covers.length = 4 → v.covers.length = 4) : Ordinary s (setStation k v s) := by
  have hs : Within (ended s) →
      (stationAt s k).handOffs.length ≤ 4 ∧ (stationAt s k).cancels.length ≤ 8 ∧ (stationAt s k).covers.length = 4 := by
    intro w
    unfold stationAt
    cases hq : s.xlm.stations[k - 1]? with
    | none => exact ⟨Nat.zero_le _, Nat.zero_le _, rfl⟩
    | some q =>
      have m := List.mem_of_getElem? hq
      exact ⟨w.handOffs q m, w.cancels q m, w.stationCovers q m⟩
  refine ⟨rfl, rfl, rfl, rfl, rfl, rfl, rfl, rfl, List.prefix_refl _, fun w => { w with
    handOffs := fun q hq => ?_, cancels := fun q hq => ?_, stationCovers := fun q hq => ?_
    stations := by simpa using w.stations, owed := rfl, ended := rfl }⟩
  · rcases List.mem_or_eq_of_mem_set hq with m | rfl
    · exact w.stationCovers q m
    · exact o (hs w).2.2
  · rcases List.mem_or_eq_of_mem_set hq with m | rfl
    · exact w.handOffs q m
    · exact h (hs w).1
  · rcases List.mem_or_eq_of_mem_set hq with m | rfl
    · exact w.cancels q m
    · exact c (hs w).2.1

/-! ## Notices and replies -/

theorem post_ordinary (n : Notice) (s : State) : Ordinary s (post n s) := by
  unfold post
  split
  · rename_i h
    refine ⟨rfl, rfl, rfl, rfl, rfl, rfl, rfl, rfl, List.prefix_append _ _, fun w => { w with notices := ?_, owed := rfl, ended := rfl }⟩
    have : (s.clk.notices ++ [n]).length ≤ 32 := by
      rw [List.length_append]; simp only [Config.maxNotices] at h; simp only [List.length_singleton]; omega
    exact this
  · exact ⟨rfl, rfl, rfl, rfl, rfl, rfl, rfl, rfl, List.prefix_refl _, fun w => { w with owed := rfl, ended := rfl }⟩

theorem answer_ordinary (k t : Byte) (st : Status) (c : Bool) (f : List Byte) (s : State) :
    Ordinary s (answer k t st c f s) :=
  ⟨rfl, rfl, rfl, rfl, rfl, rfl, rfl, rfl, List.prefix_refl _, fun w => { w with owed := rfl, ended := rfl }⟩

theorem done_ordinary (k t : Byte) (f : List Byte) (s : State) : Ordinary s (done k t f s) := answer_ordinary ..

theorem refuse_ordinary (k t : Byte) (why : Status) (s : State) : Ordinary s (refuse k t why s) := answer_ordinary ..

theorem replyLater_ordinary (k t : Byte) (s : State) : Ordinary s (replyLater k t s) :=
  ⟨rfl, rfl, rfl, rfl, rfl, rfl, rfl, rfl, List.prefix_refl _, fun w => { w with owed := rfl, ended := rfl }⟩

theorem closeEvent_ordinary (s : State) : Ordinary s (closeEvent s) := setMoment_ordinary _ s

theorem postReprint_ordinary (s : State) : Ordinary s (postReprint s) := by
  unfold postReprint
  split
  · exact (setRpq_ordinary (q := { s.rpq with touched := false }) (s := s) id).trans (post_ordinary _ _)
  · exact .refl s

/-- The end of a step closes its event and pays the REPRINT notice it owes. -/
theorem finish_ordinary (s : State) : Ordinary s (finish s) := (closeEvent_ordinary s).trans (postReprint_ordinary _)

theorem postReprint_touched (s : State) : (postReprint s).rpq.touched = false := by
  unfold postReprint post
  split
  · split <;> rfl
  · rename_i h; simpa using h

theorem postReprint_rcv (s : State) : (postReprint s).rcv = s.rcv := by
  unfold postReprint post
  split
  · split <;> rfl
  · rfl

theorem finish_touched (s : State) : (finish s).rpq.touched = false := postReprint_touched _

theorem finish_underway (s : State) : (finish s).rcv.moment.underway = false := by
  rw [finish, postReprint_rcv]; rfl

/-- A finished state is within the capacities when the state before the step was, but for the notice owed and the event underway. -/
theorem finish_within {s : State} (w : Within (ended s)) : Within (finish s) := by
  have h := (finish_ordinary s).stores w
  exact { h with owed := finish_touched s, ended := finish_underway s }

end Sys2Proof.Machine
end

