-- ==== Sys2Proof/Laws/Blocks.lean ====
section
/-! SUPPORT. What each block's operations keep (`Ordinary`): one lemma for each operation of the blocks, in the order of their
files. -/

namespace Sys2Proof.Machine

/-! ## Reprint queue and set table -/

/-- An offer never takes the queue past its capacity (R133, R135). -/
theorem offer_length (e : ReprintEntry) (q : Rpq) (h : q.queue.length ≤ 64) : (offer e q).queue.length ≤ 64 := by
  unfold offer fold
  simp only [Config.maxReprint]
  split
  · exact h
  · split
    · exact h
    · split
      · simpa using h
      · split
        · simp only [List.length_append, List.length_singleton]; omega
        · split
          · simp only [List.length_append, List.length_singleton]; omega
          · exact h

theorem offerEntry_ordinary (e : ReprintEntry) (s : State) : Ordinary s (offerEntry e s) :=
  setRpq_ordinary (offer_length e s.rpq)

theorem countHandOff_ordinary (r : Record) (s : State) : Ordinary s (countHandOff r s) := by
  unfold countHandOff
  split
  · exact putSet_ordinary _ s
  · exact .refl s

theorem memberDelivered_ordinary (r : Record) (s : State) : Ordinary s (memberDelivered r s) := by
  unfold memberDelivered
  split
  · exact putSet_ordinary _ s
  · exact .refl s

theorem memberLost_ordinary (r : Record) (s : State) : Ordinary s (memberLost r s) := by
  unfold memberLost
  split
  · dsimp only
    split
    · exact dropSet_ordinary _ s
    · exact putSet_ordinary _ s
  · exact .refl s

/-! ## Zones -/

theorem speedChange_ordinary (z v : Nat) (s : State) : Ordinary s (speedChange z v s) := by
  unfold speedChange
  split
  · exact .refl s
  · exact mapList_ordinary _ (by intro _; rfl) s

theorem driveZone_ordinary (z v : Nat) (d : Dir) (s : State) : Ordinary s (driveZone z v d s) := setZone_ordinary _ _ s

theorem haltZones_ordinary (s : State) : Ordinary s (haltZones s) :=
  ⟨rfl, rfl, rfl, rfl, rfl, rfl, rfl, rfl, List.prefix_refl _,
    fun w => { w with zones := by simpa [haltZones] using w.zones, owed := rfl, ended := rfl }⟩

theorem runZone_ordinary (s : State) (z : Nat) : Ordinary s (runZone s z) := by
  unfold runZone
  split
  · exact (setZone_ordinary _ _ s).trans (speedChange_ordinary _ _ _)
  · exact .refl s

theorem runOutZones_ordinary (zs : List Nat) (s : State) : Ordinary s (runOutZones zs s) :=
  (haltZones_ordinary s).trans (.foldl runZone_ordinary zs _)

/-! ## Snapshot store -/

@[simp] theorem beginWrite_rows (p : Spm) : (beginWrite p).rows = p.rows := by
  unfold beginWrite
  split
  · split <;> rfl
  · rfl

@[simp] theorem addOp_rows (o : RowOp) (p : Spm) : (addOp o p).rows = p.rows := by
  unfold addOp
  split
  · simp
  · rfl

theorem takeSnapshot_ordinary (t : Trigger) (s : State) : Ordinary s (takeSnapshot t s) := by
  unfold takeSnapshot
  split
  · exact setSpm_ordinary (addOp_rows _ _)
  · exact .refl s

theorem armedEntered_ordinary (s : State) : Ordinary s (armedEntered s) := by
  unfold armedEntered
  split
  · exact setSpm_ordinary (addOp_rows _ _)
  · exact .refl s

theorem enterArmed_ordinary (s : State) : Ordinary s (enterArmed s) :=
  (setPath_ordinary _ s).trans (armedEntered_ordinary _)

/-! ## Jams -/

theorem firstCause_ordinary (c : JamCause) (as : List Nat) (s : State) : Ordinary s (firstCause c as s) :=
  (((setJam_ordinary _ s).trans (setPath_ordinary _ _)).trans (haltZones_ordinary _)).trans (post_ordinary _ _)

theorem secondFailure_ordinary (c : JamCause) (as : List Nat) (s : State) : Ordinary s (secondFailure c as s) :=
  ((((((setMoment_ordinary _ s).trans (setJam_ordinary _ _)).trans (setHeld_ordinary _ _)).trans (mapList_ordinary (fun r => { r with disp := none }) (by intro _; rfl) _)).trans
    (setPath_ordinary _ _)).trans (haltZones_ordinary _)).trans (post_ordinary _ _)

theorem joinAreas_ordinary (as : List Nat) (s : State) : Ordinary s (joinAreas as s) := setJam_ordinary _ s

theorem raiseJam_ordinary (c : JamCause) (as : List Nat) (s : State) : Ordinary s (raiseJam c as s) := by
  unfold raiseJam
  split
  · exact firstCause_ordinary _ _ s
  · exact firstCause_ordinary _ _ s
  · exact secondFailure_ordinary _ _ s
  · split
    · exact joinAreas_ordinary _ s
    · exact .refl s
  all_goals exact .refl s

theorem raiseCover_ordinary (as : List Nat) (s : State) : Ordinary s (raiseCover as s) := by
  unfold raiseCover
  split
  · exact joinAreas_ordinary _ s
  · exact raiseJam_ordinary _ _ s

theorem raiseSheet_ordinary (c : Cause) (sheet node zone : Nat) (m b : Option Int) (s : State) :
    Ordinary s (raiseSheet c sheet node zone m b s) := raiseJam_ordinary _ _ s

/-! ## Gates -/

theorem gateJam_ordinary (g : Nat) (e : GateEntry) (m b : Option Int) (s : State) : Ordinary s (gateJam g e m b s) :=
  (setGate_ordinary _ _ s).trans (raiseJam_ordinary _ _ _)

theorem guardJudge_ordinary (g : Nat) (s : State) : Ordinary s (guardJudge g s) := by
  unfold guardJudge
  split
  · split
    · dsimp only
      split
      · exact gateJam_ordinary _ _ _ _ s
      · exact .refl s
    · exact .refl s
  · exact .refl s

theorem commandGate_ordinary (g : Nat) (e : GateEntry) (p : Bool) (s : State) : Ordinary s (commandGate g e p s) :=
  setGate_ordinary _ _ s

theorem position_ordinary (g : Nat) (e : GateEntry) (n : Nat) (p : Bool) (s : State) : Ordinary s (position g e n p s) := by
  unfold position
  dsimp only
  split
  · exact setGate_ordinary _ _ s
  · exact (commandGate_ordinary _ _ _ s).trans (setGate_ordinary _ _ _)

theorem rederive_ordinary (arrived : Option Nat) (g : Nat) (s : State) : Ordinary s (rederive arrived g s) := by
  unfold rederive
  split
  · split
    · split
      · dsimp only
        split
        · split
          · exact guardJudge_ordinary _ s
          · exact .refl s
        · split
          · split
            · exact (position_ordinary _ _ _ _ s).trans (guardJudge_ordinary _ _)
            · exact position_ordinary _ _ _ _ s
          · exact .refl s
      · exact .refl s
    · exact .refl s
  · exact .refl s

theorem rederiveAt_ordinary (arrived : Option Nat) (n : Nat) (s : State) : Ordinary s (rederiveAt arrived n s) :=
  .foldl (α := Nat × GateEntry) (fun s p => rederive_ordinary arrived p.1 s) _ s

theorem guardAt_ordinary (n : Nat) (s : State) : Ordinary s (guardAt n s) :=
  .foldl (α := Nat × GateEntry) (fun s p => guardJudge_ordinary p.1 s) _ s

theorem rederiveAll_ordinary (s : State) : Ordinary s (rederiveAll s) := .foldl (fun s g => rederive_ordinary none g s) _ s

theorem rederiveFor_ordinary (r : Record) (s : State) : Ordinary s (rederiveFor r s) :=
  .foldl (α := Nat × GateEntry) (fun s p => rederive_ordinary none p.1 s) _ s

theorem guardEdges_ordinary (z : Nat) (s : State) : Ordinary s (guardEdges z s) := by
  refine .foldl (fun s g => ?_) _ s
  split
  · split
    · exact guardJudge_ordinary _ s
    · exact .refl s
  · exact .refl s

/-! ## Clearance -/

theorem areaNotice_ordinary (a : Nat) (o : AreaOccasion) (n : Option Nat) (s : State) : Ordinary s (areaNotice a o n s) :=
  post_ordinary _ s

theorem makeDue_ordinary (a : Nat) (s : State) : Ordinary s (makeDue a s) := by
  unfold makeDue
  split
  · exact .refl s
  · exact setDue_ordinary _ s

theorem listArea_ordinary (s : State) (a : Nat) : Ordinary s (listArea s a) := by
  unfold listArea
  split
  · exact .refl s
  · dsimp only
    split
    · exact (((setArea_ordinary _ _ s).trans (setClearance_ordinary _ _)).trans (areaNotice_ordinary _ _ _ _)).trans
        (makeDue_ordinary _ _)
    · exact ((setArea_ordinary _ _ s).trans (setClearance_ordinary _ _)).trans (areaNotice_ordinary _ _ _ _)

theorem listAreas_ordinary (as : List Nat) (s : State) : Ordinary s (listAreas as s) := .foldl listArea_ordinary _ s

theorem holdPositions_ordinary (s : State) : Ordinary s (holdPositions s) := by
  have h : ∀ u : State, ∀ v, Ordinary u { u with rcv := { u.rcv with holdTravel := v } } := fun u v =>
    ⟨rfl, rfl, rfl, rfl, rfl, rfl, rfl, rfl, List.prefix_refl _, fun w => { w with owed := rfl, ended := rfl }⟩
  unfold holdPositions
  dsimp only
  split
  · exact mapList_ordinary _ (by intro _; rfl) s
  · exact mapList_ordinary _ (by intro _; rfl) s
  · exact (mapList_ordinary _ (by intro _; rfl) s).trans (h _ _)

theorem enterClearing_ordinary (s : State) : Ordinary s (enterClearing s) :=
  ((holdPositions_ordinary s).trans (setPath_ordinary _ _)).trans (listAreas_ordinary _ _)

theorem enterResumable_ordinary (s : State) : Ordinary s (enterResumable s) :=
  (((holdPositions_ordinary s).trans (setPath_ordinary _ _)).trans (setDue_ordinary _ _)).trans (post_ordinary _ _)

theorem decideRecovery_ordinary (s : State) : Ordinary s (decideRecovery s) := by
  unfold decideRecovery
  split
  · exact enterClearing_ordinary s
  · exact enterResumable_ordinary s

theorem decideResumable_ordinary (s : State) : Ordinary s (decideResumable s) := by
  unfold decideResumable
  split
  · exact enterResumable_ordinary s
  · exact .refl s

theorem giveRemove_ordinary (p : Record → Bool) (s : State) : Ordinary s (giveRemove p s) :=
  (mapList_ordinary _ (fun q => by split <;> rfl) s).trans (listAreas_ordinary _ _)

theorem openArea_ordinary (s : State) (a : Nat) : Ordinary s (openArea s a) := by
  unfold openArea
  split
  · exact (setArea_ordinary _ _ s).trans (areaNotice_ordinary _ _ _ _)
  · exact listArea_ordinary s a

theorem coverOpening_ordinary (as : List Nat) (s : State) : Ordinary s (coverOpening as s) := by
  unfold coverOpening
  dsimp only
  refine Ordinary.trans ?_ (.foldl openArea_ordinary _ _)
  split
  · exact (setPath_ordinary _ s).trans (giveRemove_ordinary _ _)
  · exact giveRemove_ordinary _ s

theorem coverClosing_ordinary (as : List Nat) (s : State) : Ordinary s (coverClosing as s) := by
  unfold coverClosing
  split
  · refine (Ordinary.foldl (fun s a => ?_) _ s).trans (decideResumable_ordinary _)
    split
    · exact (setArea_ordinary _ _ s).trans (areaNotice_ordinary _ _ _ _)
    · exact .refl s
  · exact .refl s

theorem abortCalibration_ordinary (s : State) : Ordinary s (abortCalibration s) := by
  unfold abortCalibration
  split
  · exact (setCalib_ordinary _ s).trans (refuse_ordinary _ _ _ _)
  · exact .refl s

theorem coverChanged_ordinary (c : CoverSource) (o : Bool) (s : State) : Ordinary s (coverChanged c o s) := by
  unfold coverChanged
  dsimp only
  split
  · exact .refl s
  · split
    · refine (abortCalibration_ordinary s).trans ?_
      split
      · exact coverOpening_ordinary _ _
      · exact coverOpening_ordinary _ _
      · exact raiseCover_ordinary _ _
    · exact coverClosing_ordinary _ s

/-! ## Stations -/

theorem stationNotice_ordinary (k : Nat) (o : StationOccasion) (s : State) : Ordinary s (stationNotice k o s) :=
  post_ordinary _ s

theorem linkLost_ordinary (k : Nat) (s : State) : Ordinary s (linkLost k s) := by
  unfold linkLost
  split
  · exact raiseJam_ordinary _ _ s
  · exact .refl s

theorem dueForStation_ordinary (k : Nat) (s : State) : Ordinary s (dueForStation k s) :=
  .foldl (fun s a => makeDue_ordinary a s) _ s

theorem loseStation_ordinary (b : Bool) (k : Nat) (s : State) : Ordinary s (loseStation b k s) := by
  unfold loseStation
  have h : Ordinary s (setStation k { stationAt s k with link := .lost, retry := 0, miss := 0, handOffs := [] } s) :=
    setStation_ordinary (fun _ => Nat.zero_le _) id id
  exact ((h.trans (stationNotice_ordinary _ _ _)).trans (dueForStation_ordinary _ _)).trans (linkLost_ordinary _ _)

theorem offerHandOff_ordinary (r : Record) (k : Nat) (bin : Option Nat) (s : State) : Ordinary s (offerHandOff r k bin s) := by
  unfold offerHandOff
  dsimp only
  split
  · rename_i h
    have hk : Ordinary s (setStation k { stationAt s k with
        handOffs := (stationAt s k).handOffs ++ [⟨r.sheet, r.setPart, bin⟩] } s) :=
      setStation_ordinary (fun _ => by rw [List.length_append, List.length_singleton]; exact h) id id
    exact (hk.trans (putRec_ordinary _ _)).trans (countHandOff_ordinary _ _)
  · split
    · exact loseStation_ordinary _ _ s
    · exact .refl s

theorem handOffStep_ordinary (n : Nat) (s : State) : Ordinary s (handOffStep n s) := by
  unfold handOffStep
  split
  · split
    · split
      · exact offerHandOff_ordinary _ _ _ s
      · exact .refl s
    · exact .refl s
  · exact .refl s

theorem queueCancel_ordinary (k : Nat) (c : Cancel) (s : State) : Ordinary s (queueCancel k c s) := by
  unfold queueCancel
  dsimp only
  split
  · rename_i h
    refine setStation_ordinary id (fun _ => ?_) id
    rw [List.length_append, List.length_singleton]; exact h
  · exact stationNotice_ordinary _ _ s

theorem cancelSet_ordinary (e : SetEntry) (s : State) : Ordinary s (cancelSet e s) := by
  unfold cancelSet
  split
  · split
    · exact queueCancel_ordinary _ _ s
    · exact .refl s
  · exact .refl s

/-! ## Departures and area checks -/

theorem offerFinal_ordinary (m : MapStore) (r : Record) (f : Final) (s : State) : Ordinary s (offerFinal m r f s) := by
  unfold offerFinal
  split
  · exact offerEntry_ordinary _ s
  · exact .refl s

theorem memberLeaves_ordinary (r : Record) (f : Final) (s : State) : Ordinary s (memberLeaves r f s) := by
  unfold memberLeaves
  split
  · exact memberDelivered_ordinary _ s
  all_goals exact memberLost_ordinary _ s

theorem dropHeld_ordinary (n : Nat) (s : State) : Ordinary s (dropHeld n s) := setHeld_ordinary _ s

theorem takeOut_ordinary (r : Record) (f : Final) (s : State) : Ordinary s (takeOut r f s) :=
  (((((dropRec_ordinary _ s).trans (offerFinal_ordinary _ _ _ _)).trans (post_ordinary _ _)).trans
    (memberLeaves_ordinary _ _ _)).trans (dropHeld_ordinary _ _)).trans (rederiveFor_ordinary _ _)

theorem runOutEnd_ordinary (s : State) : Ordinary s (runOutEnd s) := by
  unfold runOutEnd
  split
  · exact (haltZones_ordinary s).trans (decideRecovery_ordinary _)
  · exact .refl s

theorem afterLeaving_ordinary (f : Final) (s : State) : Ordinary s (afterLeaving f s) := by
  unfold afterLeaving
  split
  · split
    · exact enterArmed_ordinary s
    · exact .refl s
  · exact runOutEnd_ordinary s
  · exact .refl s

theorem leave_ordinary (f : Final) (n : Nat) (s : State) : Ordinary s (leave f n s) := by
  unfold leave
  split
  · exact (takeOut_ordinary _ _ s).trans (afterLeaving_ordinary _ _)
  · exact .refl s

theorem judgeReleased_ordinary (as : List Nat) (s : State) : Ordinary s (judgeReleased as s) :=
  .foldl (fun s a => makeDue_ordinary a s) _ s

theorem releaseRecord_ordinary (a : Nat) (s : State) (n : Nat) : Ordinary s (releaseRecord a s n) := by
  unfold releaseRecord
  split
  · split
    · exact takeOut_ordinary _ _ s
    · exact listAreas_ordinary _ s
  · exact .refl s

theorem releaseArea_ordinary (a : Nat) (s : State) : Ordinary s (releaseArea a s) :=
  ((Ordinary.foldl (releaseRecord_ordinary a) _ s).trans (judgeReleased_ordinary _ _)).trans (decideResumable_ordinary _)

theorem concludeCheck_ordinary (a : Nat) (s : State) : Ordinary s (concludeCheck a s) := by
  unfold concludeCheck
  split
  · exact (((setArea_ordinary _ _ s).trans (setClearance_ordinary _ _)).trans (areaNotice_ordinary _ _ _ _)).trans
      (releaseArea_ordinary _ _)
  · exact (setArea_ordinary _ _ s).trans (areaNotice_ordinary _ _ _ _)

theorem afterFinal_ordinary (r : Record) (s : State) : Ordinary s (afterFinal r s) := by
  unfold afterFinal
  split
  · refine Ordinary.trans ?_ (decideResumable_ordinary _)
    split
    · exact judgeReleased_ordinary _ s
    · exact .refl s
  · exact .refl s

theorem takeFinal_ordinary (k : Nat) (s : State) (n : Nat) : Ordinary s (takeFinal k s n) := by
  unfold takeFinal
  split
  · split
    · exact (leave_ordinary _ _ s).trans (afterFinal_ordinary _ _)
    · exact stationNotice_ordinary _ _ s
  · exact stationNotice_ordinary _ _ s

end Sys2Proof.Machine
end

