-- ==== Sys2Proof/Laws/Moves.lean ====
section
/-! SUPPORT. What the operations that move records and read sensors keep (`Ordinary`), one lemma for each, in the order of
Machine/Flight.lean, Machine/Sensors.lean and Machine/Arming.lean. -/

namespace Sys2Proof.Machine

/-! ## Windows and steps -/

theorem updRec_ordinary (n : Nat) (f : Record → Record) (s : State) : Ordinary s (updRec n f s) := by
  unfold updRec
  split
  · exact putRec_ordinary _ s
  · exact .refl s

theorem withRec_ordinary {f : Record → State → State} (h : ∀ r s, Ordinary s (f r s)) (n : Nat) (s : State) :
    Ordinary s (withRec n f s) := by
  unfold withRec
  split
  · exact h _ s
  · exact .refl s

theorem judgeStay_ordinary (r : Record) (s : State) : Ordinary s (judgeStay r s) := by
  unfold judgeStay
  split
  · split
    · exact raiseSheet_ordinary ..
    · exact .refl s
  · exact .refl s

theorem openStay_ordinary (n : Nat) (s : State) : Ordinary s (openStay n s) :=
  (updRec_ordinary n _ s).trans (withRec_ordinary judgeStay_ordinary n _)

theorem takeStep_ordinary (x : Nat) (arr : List Arrival) (r : Record) (s : State) : Ordinary s (takeStep x arr r s) := by
  unfold takeStep
  dsimp only
  refine Ordinary.trans ?_ (handOffStep_ordinary _ _)
  have h : ∀ p : Prop, [Decidable p] → ∀ q, Ordinary s (if p then openStay r.sheet (putRec q s) else putRec q s) := by
    intro p _ q
    split
    · exact (putRec_ordinary _ s).trans (openStay_ordinary _ _)
    · exact putRec_ordinary _ s
  split
  · exact (h _ _).trans (rederiveAt_ordinary _ _ _)
  · exact h _ _

theorem crossMarks_ordinary (n k : Nat) (s : State) : Ordinary s (crossMarks n k s) := by
  induction k generalizing s with
  | zero => exact .refl s
  | succ k ih =>
    unfold crossMarks
    split
    · split
      · exact ((putRec_ordinary _ s).trans (takeStep_ordinary _ _ _ _)).trans (ih _)
      · exact .refl s
    · exact .refl s

theorem crossTrail_ordinary (r : Record) (s : State) : Ordinary s (crossTrail r s) := by
  unfold crossTrail
  dsimp only
  split
  · exact ((putRec_ordinary _ s).trans (openStay_ordinary _ _)).trans (rederiveAt_ordinary _ _ _)
  · exact (putRec_ordinary _ s).trans (openStay_ordinary _ _)

theorem crossTrails_ordinary (n k : Nat) (s : State) : Ordinary s (crossTrails n k s) := by
  induction k generalizing s with
  | zero => exact .refl s
  | succ k ih =>
    unfold crossTrails
    split
    · split
      · exact (crossTrail_ordinary _ s).trans (ih _)
      · split
        · exact leave_ordinary _ _ s
        · exact .refl s
    · exact .refl s

theorem settle_ordinary (n : Nat) (s : State) : Ordinary s (settle n s) := by
  unfold settle
  split
  · exact (crossMarks_ordinary _ _ s).trans (crossTrails_ordinary _ _ _)
  · exact .refl s

/-! ## The switchback -/

theorem acceptReturn_ordinary (b : Bool) (r : Record) (s : State) : Ordinary s (acceptReturn b r s) := by
  unfold acceptReturn
  split
  · exact (takeStep_ordinary _ _ _ s).trans (settle_ordinary _ _)
  · exact .refl s

theorem raiseReversal_ordinary (r : Record) (g : SegEntry) (d b : Int) (s : State) : Ordinary s (raiseReversal r g d b s) :=
  raiseSheet_ordinary ..

theorem judgeReturn_ordinary (r : Record) (g : SegEntry) (d : Int) (s : State) :
    Ordinary s (judgeReturn r g d s) := by
  unfold judgeReturn
  split
  · exact raiseReversal_ordinary ..
  · split
    · exact raiseReversal_ordinary ..
    · exact acceptReturn_ordinary ..

theorem takeReturn_ordinary (r : Record) (g : SegEntry) (d : Int) (s : State) : Ordinary s (takeReturn r g d s) := by
  unfold takeReturn
  split
  · exact (putRec_ordinary _ s).trans (raiseReversal_ordinary ..)
  · exact acceptReturn_ordinary ..

theorem judgeDepth_ordinary (r : Record) (s : State) : Ordinary s (judgeDepth r s) := by
  unfold judgeDepth
  split
  · split
    · exact raiseReversal_ordinary ..
    · split
      · split
        · exact takeReturn_ordinary ..
        · exact .refl s
      · split
        · exact raiseReversal_ordinary ..
        · exact .refl s
  · exact .refl s

/-! ## Travel increments -/

theorem guardMark_ordinary (r : Record) (s : State) : Ordinary s (guardMark r s) := by
  unfold guardMark
  split
  · split
    · exact guardAt_ordinary ..
    · exact .refl s
  · exact .refl s

theorem moveRecord_ordinary (z : Nat) (s : State) (n : Nat) : Ordinary s (moveRecord z s n) := by
  unfold moveRecord
  split
  · split
    · dsimp only
      split
      · exact (putRec_ordinary _ s).trans (judgeDepth_ordinary _ _)
      · exact ((putRec_ordinary _ s).trans (guardMark_ordinary _ _)).trans (settle_ordinary _ _)
    · exact .refl s
  · exact .refl s

theorem judgeLate_ordinary (z : Nat) (r : Record) (s : State) : Ordinary s (judgeLate z r s) := by
  unfold judgeLate
  split
  · split
    · exact raiseSheet_ordinary ..
    · exact .refl s
  · exact .refl s

theorem judgeWindows_ordinary (z : Nat) (s : State) (n : Nat) : Ordinary s (judgeWindows z s n) := by
  have h : ∀ (r : Record) (t : State), Ordinary t (if r.trailExp.any (fun e => e.zone == z) then judgeStay r t else t) := by
    intro r t
    split
    · exact judgeStay_ordinary r t
    · exact .refl t
  exact (withRec_ordinary (judgeLate_ordinary z) n s).trans (withRec_ordinary h n _)

theorem takeIncrement_ordinary (z : Nat) (s : State) : Ordinary s (takeIncrement z s) := by
  unfold takeIncrement
  split
  · exact (Ordinary.foldl (moveRecord_ordinary z) _ s).trans (.foldl (judgeWindows_ordinary z) _ _)
  · exact .refl s

/-! ## Edges -/

theorem acceptArrival_ordinary (n z : Nat) (st : Travel) (r : Record) (s : State) : Ordinary s (acceptArrival n z st r s) :=
  (takeStep_ordinary _ _ _ s).trans (settle_ordinary _ _)

theorem judgeArrival_ordinary (n z : Nat) (st : Travel) (r : Record) (e : LeadExp) (s : State) :
    Ordinary s (judgeArrival n z st r e s) := by
  unfold judgeArrival
  dsimp only
  split
  · exact raiseSheet_ordinary ..
  · split
    · exact raiseSheet_ordinary ..
    · exact acceptArrival_ordinary ..

theorem raiseUnexpected_ordinary (n : Nat) (s : State) : Ordinary s (raiseUnexpected n s) := raiseJam_ordinary _ _ s

theorem takeLead_ordinary (n z : Nat) (st : Travel) (s : State) : Ordinary s (takeLead n z st s) := by
  have h : Ordinary s (if pocketEnd s n then s else
      match returnsWithin s n with
      | some (r, g) => judgeReturn r g (depthOf r) s
      | none =>
        match expectedAt s n with
        | some r =>
          match r.leadExp with
          | some e => judgeArrival n z st r e s
          | none => s
        | none =>
          match returnsAt s n with
          | some (r, g) => judgeReturn r g (depthOf r) s
          | none => if s.rcv.path = .halting then s else raiseUnexpected n s) := by
    split
    · exact .refl s
    · split
      · exact judgeReturn_ordinary ..
      · split
        · split
          · exact judgeArrival_ordinary ..
          · exact .refl s
        · split
          · exact judgeReturn_ordinary ..
          · split
            · exact .refl s
            · exact raiseUnexpected_ordinary n s
  unfold takeLead
  split
  · exact h
  · exact h
  · exact h
  · exact raiseUnexpected_ordinary n s
  all_goals exact .refl s

theorem judgeCrowd_ordinary (n : Nat) (s : State) : Ordinary s (judgeCrowd n s) := by
  unfold judgeCrowd
  split
  · dsimp only
    split
    · exact raiseSheet_ordinary ..
    · exact .refl s
  · exact .refl s

theorem acceptTrail_ordinary (n : Nat) (r : Record) (s : State) : Ordinary s (acceptTrail n r s) :=
  (((putRec_ordinary r s).trans (crossTrail_ordinary _ _)).trans (settle_ordinary _ _)).trans (judgeCrowd_ordinary _ _)

theorem judgeTrail_ordinary (n : Nat) (t : Int) (r : Record) (e : TrailExp) (s : State) :
    Ordinary s (judgeTrail n t r e s) := by
  unfold judgeTrail
  dsimp only
  split
  · exact raiseSheet_ordinary ..
  · split
    · split
      · exact raiseSheet_ordinary ..
      · split
        · exact raiseSheet_ordinary ..
        · exact acceptTrail_ordinary ..
    · split
      · exact raiseSheet_ordinary ..
      · exact acceptTrail_ordinary ..

theorem takeTrail_ordinary (n z : Nat) (st : Travel) (s : State) : Ordinary s (takeTrail n z st s) := by
  unfold takeTrail
  split
  · split
    · split
      · exact judgeTrail_ordinary ..
      · exact .refl s
    · exact .refl s
  · exact .refl s

theorem failRecord_ordinary (n : Nat) (s : State) (k : Nat) : Ordinary s (failRecord n s k) := by
  unfold failRecord
  split
  · dsimp only
    split
    · exact (putRec_ordinary _ s).trans (settle_ordinary _ _)
    · exact putRec_ordinary _ s
  · exact .refl s

theorem failNodeRecords_ordinary (n : Nat) (s : State) : Ordinary s (failNodeRecords n s) :=
  .foldl (failRecord_ordinary n) _ s

theorem judgeRemote_ordinary (n a : Nat) (r : Record) (e : LeadExp) (s : State) : Ordinary s (judgeRemote n a r e s) := by
  have h : Ordinary s (acceptRemote r s) := (takeStep_ordinary _ _ _ s).trans (settle_ordinary _ _)
  unfold judgeRemote
  dsimp only
  split
  · split
    · exact raiseSheet_ordinary ..
    · exact h
  · exact h

theorem takeRemoteLead_ordinary (k n sheet age : Nat) (s : State) : Ordinary s (takeRemoteLead k n sheet age s) := by
  have h : ∀ b : Bool, Ordinary s (if b then stationNotice k (.errorSheet sheet) s
      else if positioning s then raiseUnexpected n s else s) := by
    intro b
    split
    · exact stationNotice_ordinary ..
    · split
      · exact raiseUnexpected_ordinary n s
      · exact .refl s
  unfold takeRemoteLead
  split
  · split
    · split
      · split
        · exact judgeRemote_ordinary ..
        · exact h _
      · exact h _
    · exact stationNotice_ordinary ..
  · exact .refl s

theorem takeRemoteTrail_ordinary (k n sheet : Nat) (s : State) : Ordinary s (takeRemoteTrail k n sheet s) := by
  unfold takeRemoteTrail
  split
  · split
    · split
      · exact (crossTrail_ordinary _ s).trans (settle_ordinary _ _)
      · split
        · exact .refl s
        · exact stationNotice_ordinary ..
    · exact stationNotice_ordinary ..
  · exact .refl s

/-! ## Sensors -/

theorem dueIfBare_ordinary (a : Nat) (s : State) : Ordinary s (dueIfBare a s) := by
  unfold dueIfBare
  split
  · exact makeDue_ordinary a s
  · exact .refl s

theorem levelEvent_ordinary (n : Nat) (l : Level) (s : State) : Ordinary s (levelEvent n l s) := by
  unfold levelEvent
  split
  · split
    · exact dueIfBare_ordinary _ s
    · exact .refl s
  · exact .refl s

theorem nodeFailed_ordinary (n : Nat) (s : State) : Ordinary s (nodeFailed n s) := by
  unfold nodeFailed
  dsimp only
  split
  · exact (failNodeRecords_ordinary n s).trans (dueIfBare_ordinary _ _)
  · exact failNodeRecords_ordinary n s

theorem setBaseline_ordinary (n b : Nat) (c : Setting) (s : State) : Ordinary s (setBaseline n b c s) := by
  unfold setBaseline
  dsimp only
  split
  · exact setNode_ordinary _ _ s
  · split
    · exact ((setNode_ordinary _ _ s).trans (post_ordinary _ _)).trans (nodeFailed_ordinary _ _)
    · exact (setNode_ordinary _ _ s).trans (post_ordinary _ _)

theorem setLevelNow_ordinary (n : Nat) (s : State) : Ordinary s (setLevelNow n s) := by
  unfold setLevelNow
  dsimp only
  split
  · exact (setNode_ordinary _ _ s).trans (levelEvent_ordinary _ _ _)
  · exact setNode_ordinary _ _ s

theorem edgeEvent_ordinary (n : Nat) (lead : Bool) (s : State) : Ordinary s (edgeEvent n lead s) := by
  unfold edgeEvent
  dsimp only
  refine Ordinary.trans ?_ (levelEvent_ordinary _ _ _)
  split
  · exact takeLead_ordinary ..
  · exact takeTrail_ordinary ..

theorem takeSample_ordinary (line x : Nat) (s : State) : Ordinary s (takeSample line x s) := by
  unfold takeSample
  dsimp only
  refine (setCalib_ordinary (s.sfe.calib.map (accumulate line x)) s).trans ?_
  split
  · split
    · exact (setNode_ordinary _ _ _).trans (edgeEvent_ordinary _ _ _)
    · exact setNode_ordinary _ _ _
  · exact .refl _

theorem trackNode_ordinary (s : State) (n : Nat) : Ordinary s (trackNode s n) := by
  unfold trackNode
  split
  · split
    · exact .refl s
    · exact setBaseline_ordinary ..
  · exact .refl s

theorem lastSample_ordinary (c : Calibration) (s : State) (n : Nat) (e : NodeEntry) : Ordinary s (lastSample c s n e) := by
  unfold lastSample
  dsimp only
  split
  · exact setNode_ordinary ..
  · exact .refl s

theorem endCalibration_ordinary (c : Calibration) (s : State) : Ordinary s (endCalibration c s) :=
  (((Ordinary.foldl (α := Nat × NodeEntry) (fun _ _ => lastSample_ordinary _ _ _ _) _ s).trans (setCalib_ordinary none _)).trans
    (.foldl (α := Nat × NodeEntry) (fun _ _ => (setBaseline_ordinary _ _ _ _).trans (setLevelNow_ordinary _ _)) _ _)).trans
    (done_ordinary _ _ _ _)

theorem coverFlips_ordinary (l : Nat) (o : Bool) (s : State) : Ordinary s (coverFlips l o s) := by
  have h : Ordinary s { s with sfe := { s.sfe with
      covers := s.sfe.covers.set l o, coverCount := s.sfe.coverCount.set l 0 } } :=
    ⟨rfl, rfl, rfl, rfl, rfl, rfl, rfl, rfl, List.prefix_refl _,
      fun w => { w with covers := by simpa using w.covers, coverCount := by simpa using w.coverCount, owed := rfl, ended := rfl }⟩
  exact h.trans (coverChanged_ordinary _ _ _)

/-! ## Arming -/

theorem armNode_ordinary (s : State) (p : Nat × NodeEntry) : Ordinary s (armNode s p) :=
  (setBaseline_ordinary _ _ _ s).trans (setLevelNow_ordinary _ _)

theorem armClears_ordinary (j : JamRecord) (s : State) : Ordinary s (armClears j s) :=
  (((setJam_ordinary j s).trans (haltZones_ordinary _)).trans (post_ordinary _ _)).trans (enterClearing_ordinary _)

theorem armComplete_ordinary (tag : Byte) (s : State) : Ordinary s (armComplete tag s) := by
  unfold armComplete
  dsimp only
  refine ((Ordinary.foldl armNode_ordinary (sensorNodes s.pms) s).trans (setArmTest_ordinary none _)).trans ?_
  split
  · exact (armClears_ordinary _ _).trans (done_ordinary _ _ _ _)
  · exact (enterArmed_ordinary _).trans (done_ordinary _ _ _ _)

theorem advanceTest_ordinary (tag : Byte) (gs : List (Nat × GateEntry)) (s : State) : Ordinary s (advanceTest tag gs s) := by
  induction gs generalizing s with
  | nil => exact armComplete_ordinary tag s
  | cons p gs ih =>
    unfold advanceTest
    dsimp only
    split
    · split
      · exact ((commandGate_ordinary _ _ _ s).trans (commandGate_ordinary _ _ _ _)).trans (ih _)
      · exact ((commandGate_ordinary _ _ _ s).trans (commandGate_ordinary _ _ _ _)).trans (setArmTest_ordinary _ _)
    · exact (commandGate_ordinary _ _ _ s).trans (setArmTest_ordinary _ _)

theorem gateTestStep_ordinary (s : State) : Ordinary s (gateTestStep s) := by
  unfold gateTestStep
  split
  · split
    · split
      · dsimp only
        split
        · split
          · exact (commandGate_ordinary _ _ _ s).trans (advanceTest_ordinary _ _ _)
          · exact (commandGate_ordinary _ _ _ s).trans (setArmTest_ordinary _ _)
        · exact advanceTest_ordinary _ _ s
      · exact .refl s
    · exact .refl s
  · exact .refl s

theorem gateTestFails_ordinary (g : Nat) (s : State) : Ordinary s (gateTestFails g s) := by
  unfold gateTestFails
  split
  · split
    · exact (setArmTest_ordinary none s).trans (answer_ordinary _ _ _ _ _ _)
    · exact .refl s
  · exact .refl s

end Sys2Proof.Machine
end

