-- ==== Sys2Proof/Laws/Reads.lean ====
section
/-! SUPPORT. Reading after writing: one entry of a bank or one record after it has been set, and what a jam event does in the path
states in which it is a first cause. -/

namespace Sys2Proof.Machine

/-! ## Banks -/

theorem zoneAt_setZone {z : Nat} {v : ZoneState} {s : State} (h : z < s.zdu.zones.length) : zoneAt (setZone z v s) z = v := by
  simp [zoneAt, setZone, h]

theorem zoneAt_setZone_ne {z y : Nat} {v : ZoneState} {s : State} (h : y ≠ z) : zoneAt (setZone y v s) z = zoneAt s z := by
  simp [zoneAt, setZone, List.getElem?_set_ne h]

theorem gateAt_setGate {g : Nat} {v : GateState} {s : State} (h : g < s.zdu.gates.length) : gateAt (setGate g v s) g = v := by
  simp [gateAt, setGate, h]

theorem gateAt_setGate_ne {g k : Nat} {v : GateState} {s : State} (h : k ≠ g) : gateAt (setGate k v s) g = gateAt s g := by
  simp [gateAt, setGate, List.getElem?_set_ne h]

theorem nodeAt_setNode {n : Nat} {v : NodeState} {s : State} (h : n < s.sfe.nodes.length) : nodeAt (setNode n v s) n = v := by
  simp [nodeAt, setNode, h]

theorem nodeAt_setNode_ne {n k : Nat} {v : NodeState} {s : State} (h : k ≠ n) : nodeAt (setNode k v s) n = nodeAt s n := by
  simp [nodeAt, setNode, List.getElem?_set_ne h]

theorem areaAt_setArea {a : Nat} {v : AreaState} {s : State} (h : a < s.clm.areas.length) : areaAt (setArea a v s) a = v := by
  simp [areaAt, setArea, h]

theorem areaAt_setArea_ne {a b : Nat} {v : AreaState} {s : State} (h : b ≠ a) : areaAt (setArea b v s) a = areaAt s a := by
  simp [areaAt, setArea, List.getElem?_set_ne h]

theorem stationAt_setStation {k : Nat} {v : StationState} {s : State} (h : k - 1 < s.xlm.stations.length) :
    stationAt (setStation k v s) k = v := by
  simp [stationAt, setStation, h]

/-- An entry set twice holds what was set last. -/
theorem setNode_setNode (n : Nat) (v w : NodeState) (s : State) : setNode n w (setNode n v s) = setNode n w s := by
  simp [setNode]

theorem setGate_setGate (g : Nat) (v w : GateState) (s : State) : setGate g w (setGate g v s) = setGate g w s := by
  simp [setGate]

theorem setZone_setZone (z : Nat) (v w : ZoneState) (s : State) : setZone z w (setZone z v s) = setZone z w s := by
  simp [setZone]

theorem setArea_setArea (a : Nat) (v w : AreaState) (s : State) : setArea a w (setArea a v s) = setArea a w s := by
  simp [setArea]

theorem setStation_setStation (k : Nat) (v w : StationState) (s : State) :
    setStation k w (setStation k v s) = setStation k w s := by
  simp [setStation]

/-! ## Records -/

/-- A record is found under its number. -/
theorem findRec_sheet {s : State} {n : Nat} {r : Record} (h : findRec s n = some r) : r.sheet = n := by
  simpa using List.find?_some h

/-- A record is found as it was put. -/
theorem findRec_putRec {s : State} {n : Nat} {r q : Record} (h : findRec s n = some r) (hq : q.sheet = n) :
    findRec (putRec q s) n = some q := by
  subst hq
  unfold findRec at h ⊢
  simp only [putRec, setList]
  revert h
  induction s.flt.list with
  | nil => simp
  | cons x xs ih =>
    intro h
    by_cases hx : x.sheet = q.sheet
    · simp [hx]
    · have hb : (x.sheet == q.sheet) = false := by simpa using hx
      simp only [List.map_cons, List.find?_cons, if_neg hx, hb] at h ⊢
      exact ih h

/-- A record put twice stands as it was put last. -/
theorem putRec_putRec {r q : Record} (s : State) (h : q.sheet = r.sheet) : putRec q (putRec r s) = putRec q s := by
  have : ∀ x : Record, (if (if x.sheet = r.sheet then r else x).sheet = q.sheet then q
      else if x.sheet = r.sheet then r else x) = if x.sheet = q.sheet then q else x := by
    intro x
    by_cases hx : x.sheet = r.sheet
    · simp [hx, h]
    · simp [hx]
  simp [putRec, setList, Function.comp_def, this]

/-! ## Jams -/

/-- A jam event in ARMED or RUNNING is a first cause: it halts the part (R102). -/
theorem raiseJam_halts {c : JamCause} {as : List Nat} {s : State} (h : s.rcv.path = .armed ∨ s.rcv.path = .running)
    (hr : Room 1 s) : raiseJam c as s = jammed c as s := by
  have hp : s.clk.notices.length < 32 := hr
  rcases h with h | h <;> simp [raiseJam, h, firstCause, post, setJam, setPath, haltZones, jammed, noticed, halted, hp]

/-- With no event underway, closing one changes nothing. -/
theorem closeEvent_settled {s : State} (h : s.rcv.moment.underway = false) : closeEvent s = s := by
  have : ({ s.rcv.moment with underway := false } : Moment) = s.rcv.moment := by rw [← h]
  simp only [closeEvent, setMoment, this]

/-- The windows of a record are judged where it is watched, when no event is underway (R80). -/
theorem judged_eq_true {s : State} {r : Record} (h : s.rcv.moment.underway = false) : judged s r = true ↔ Watched s r := by
  simp only [Watched, judged, h]
  cases s.rcv.path <;> simp

/-- A jam event while sheets are driven is a first cause in RUNNING and, at the end of its event, a second failure in RUNOUT
(R102, R117). -/
theorem raiseJam_fails {c : JamCause} {as : List Nat} {s : State} (h : Driven s) (hr : Room 1 s)
    (hu : s.rcv.moment.underway = false) : closeEvent (raiseJam c as s) = failed c as s := by
  rcases h with h | h
  · rw [raiseJam_halts (.inr h) hr, failed, if_neg (by simp [h]), closeEvent_settled (by simpa [jammed, noticed, halted] using hu)]
  · have hp : s.clk.notices.length < 32 := hr
    have hd : heldDisp = fun d => if d = .retain then Disp.retain else .remove := by funext d; cases d <;> rfl
    have hj : judged s = fun r => decide (r.disp = some .deliver ∨ r.disp = some .purge) := by
      funext r
      simp only [judged, h]
      rcases r.disp with - | - | - | - | - <;> rfl
    have hw : openMoment c.cause s = if c.cause = .gate then .none else ⟨watchedSheets s, true⟩ := by
      rw [openMoment, hj, watchedSheets]
    by_cases hg : c.cause = .gate
    all_goals
      simp only [hg, if_true, if_false] at hw
      simp [raiseJam, h, secondFailure, hd, hw, hg, failed, failedAgain, post, setJam, setHeld, setList, setPath, setMoment,
        closeEvent, Moment.none, haltZones, noticed, halted, hp]

/-- A jam event changes nothing of the reprint queue. -/
theorem raiseJam_rpq (c : JamCause) (as : List Nat) (s : State) : (raiseJam c as s).rpq = s.rpq := by
  have p : ∀ (n : Notice) (u : State), (post n u).rpq = u.rpq := by intro n u; unfold post; split <;> rfl
  unfold raiseJam
  split <;> try rfl
  · exact p _ _
  · exact p _ _
  · exact p _ _
  · split <;> rfl

/-- A failure of the moment of a second failure, taken in the HALTING that it began: its areas join the set (R87, R93). -/
theorem raiseJam_joins {c : JamCause} {as : List Nat} {s : State} (h : s.rcv.path = .halting)
    (h2 : s.rcv.jam.second.isSome = true) : raiseJam c as s = joinAreas as s := by
  simp [raiseJam, h, h2]

/-- A jam event in CONFIG, CLEARING and RESUMABLE changes nothing (R101). -/
theorem raiseJam_ignored {c : JamCause} {as : List Nat} {s : State}
    (h : s.rcv.path = .config ∨ s.rcv.path = .clearing ∨ s.rcv.path = .resumable) : raiseJam c as s = s := by
  rcases h with h | h | h <;> simp [raiseJam, h]

end Sys2Proof.Machine
end

