-- ==== Sys2Proof/Laws/Commands.lean ====
section
/-! SUPPORT. How a request and an event are taken, and what each request's and each event's own operation keeps (`Ordinary`).
Not listed, because they change what `Ordinary` keeps: MAP_PUT (the map), RESET and LINK_BREAK (the receiver passes over every
frame), ROW_WRITE_END and the resets (rows), TRANSMIT_END (the transmitter and the notices), REQUEST_FRAME and FRAME_GAP (the
receiver) and START. -/

namespace Sys2Proof.Machine

/-! ## Taking requests and events -/

theorem postReprint_untouched {s : State} (h : s.rpq.touched = false) : postReprint s = s := by
  unfold postReprint
  simp [h]

/-- The end of a step that changes nothing of the reprint queue. -/
theorem finish_untouched {s : State} (h : s.rpq.touched = false) : finish s = closeEvent s := postReprint_untouched h

theorem finish_settled {s : State} (h : Settled s) : finish s = s := by
  rw [finish_untouched h.1, closeEvent_settled h.2]

/-- What a ready part does with a request: its owning block performs it on the state that has heard it. -/
theorem takeRequest_ready {k t : Byte} {f : State → State} {s : State} (h : Ready s) :
    takeRequest k t f s = finish (f (heard s)) := by
  obtain ⟨hl, hd, hr, hx, -⟩ := h
  have hc : cutFrame (hear s) = heard s := by
    unfold cutFrame
    simp [hear, heard, hx]
  simp only [takeRequest, hl, if_true, hc]
  have h1 : (heard s).clk.deaf = false := hd
  have h2 : (heard s).clk.reply = .none := hr
  simp [h1, unlessPending, h2]

/-- A request whose owning block changes nothing of the reprint queue. -/
theorem takeRequest_plain {k t : Byte} {f : State → State} {s : State} (h : Ready s)
    (q : Settled (f (heard s))) : takeRequest k t f s = f (heard s) := by
  rw [takeRequest_ready h, finish_settled q]

theorem takeEvent_live {f : State → State} {s : State} (h : s.sys.live = true) : takeEvent f s = finish (f s) := by
  simp [takeEvent, h]

theorem takeEvent_plain {f : State → State} {s : State} (h : s.sys.live = true) (q : Settled (f s)) : takeEvent f s = f s := by
  rw [takeEvent_live h, finish_settled q]

/-- An event that ends in a jam event: a first cause in RUNNING, a second failure in RUNOUT (R102, R117). -/
theorem takeEvent_fails {f : State → State} {c : JamCause} {as : List Nat} {s u : State} (h : s.sys.live = true)
    (e : f s = raiseJam c as u) (d : Driven u) (hr : Room 1 u) (q : Settled u) : takeEvent f s = failed c as u := by
  rw [takeEvent_live h, e, finish_untouched (by rw [raiseJam_rpq]; exact q.1), raiseJam_fails d hr q.2]

theorem takeEvent_held {f : State → State} {s : State} (h : s.sys.live = false) : takeEvent f s = s := by
  simp [takeEvent, h]

theorem done_replied (k t : Byte) (fs : List Byte) (s : State) : done k t fs s = replied (replyKind k) t .done false fs s := rfl

theorem refuse_replied (k t : Byte) (why : Status) (s : State) :
    refuse k t why s = replied (replyKind k) t why false [] s := rfl

/-- A notice for which the queue has room (R183). -/
theorem post_room (n : Notice) {s : State} (h : Room 1 s) : post n s = noticed [n] s := by
  have : s.clk.notices.length < Config.maxNotices := by simp only [Room] at h; simp only [Config.maxNotices]; omega
  simp [post, noticed, this]

/-- A notice for which the queue has no room (R183). -/
theorem post_full (n : Notice) {s : State} (h : ¬Room 1 s) : post n s = { s with clk := { s.clk with lost := true } } := by
  have : ¬s.clk.notices.length < Config.maxNotices := by simp only [Room] at h; simp only [Config.maxNotices]; omega
  simp [post, this]

/-! ## Requests -/

theorem performIdent_ordinary (t : Byte) (s : State) : Ordinary s (performIdent t s) := done_ordinary ..

theorem performMapGet_ordinary (t : Byte) (a b c : Nat) (s : State) : Ordinary s (performMapGet t a b c s) := by
  unfold performMapGet
  split
  · exact refuse_ordinary ..
  · exact done_ordinary ..

theorem performArm_ordinary (t : Byte) (s : State) : Ordinary s (performArm t s) := by
  unfold performArm
  split
  · exact refuse_ordinary ..
  · split
    · exact refuse_ordinary ..
    · split
      · exact answer_ordinary ..
      · exact (replyLater_ordinary _ _ s).trans (advanceTest_ordinary _ _ _)

theorem performDisarm_ordinary (t : Byte) (s : State) : Ordinary s (performDisarm t s) := by
  unfold performDisarm
  split
  · have h1 : Ordinary s (setPath .config (setJam .empty (haltZones s))) :=
      (setPath_ordinary _ _).after ((setJam_ordinary _ _).after (haltZones_ordinary s))
    have h2 : Ordinary (setPath .config (setJam .empty (haltZones s)))
        (setRpq { s.rpq with abandoned := [] } (setPath .config (setJam .empty (haltZones s)))) :=
      setRpq_ordinary fun w => w
    exact (h1.trans h2).trans (done_ordinary _ _ _ _)
  · exact refuse_ordinary ..

theorem performCalibrate_ordinary (t : Byte) (s : State) : Ordinary s (performCalibrate t s) := by
  unfold performCalibrate
  split
  · split
    · exact done_ordinary ..
    · exact (setCalib_ordinary _ s).trans (replyLater_ordinary _ _ _)
  · exact refuse_ordinary ..

theorem applySpeed_ordinary (z v : Nat) (d : Dir) (s : State) : Ordinary s (applySpeed z v d s) := by
  unfold applySpeed
  dsimp only
  split
  · exact driveZone_ordinary ..
  · exact (driveZone_ordinary _ _ _ s).trans (speedChange_ordinary _ _ _)

theorem performSpeed_ordinary (t : Byte) (z v d : Nat) (s : State) : Ordinary s (performSpeed t z v d s) := by
  unfold performSpeed
  split
  · split
    · exact (applySpeed_ordinary _ _ _ s).trans (answer_ordinary _ _ _ _ _ _)
    · exact refuse_ordinary ..
  · exact refuse_ordinary ..

theorem applyGate_ordinary (g : Nat) (e : GateEntry) (p : Option Bool) (s : State) : Ordinary s (applyGate g e p s) := by
  unfold applyGate
  split
  · exact commandGate_ordinary ..
  · exact setGate_ordinary ..

theorem performGate_ordinary (t : Byte) (g p : Nat) (s : State) : Ordinary s (performGate t g p s) := by
  unfold performGate
  split
  · split
    · exact (applyGate_ordinary _ _ _ s).trans (done_ordinary _ _ _ _)
    · exact refuse_ordinary ..
  · exact refuse_ordinary ..

/-- A set joins the table only while it has room (R53, R146). -/
theorem joinSet_ordinary (a : Announced) (s : State) (h : setsFull s a = false) : Ordinary s (joinSet a s).2 := by
  unfold joinSet
  split
  · rename_i number pos last staple hs
    dsimp only
    unfold admitToSet
    split
    · exact putSet_ordinary _ s
    · rename_i hf
      simp only [setsFull, hs, Option.any_some, hf, Option.isNone_none, Bool.true_and, decide_eq_false_iff_not,
        Config.maxSets, Nat.not_le] at h
      refine ⟨rfl, rfl, rfl, rfl, rfl, rfl, rfl, rfl, List.prefix_refl _, fun w => { w with sets := ?_, owed := rfl, ended := rfl }⟩
      have : (s.xlm.sets ++ [(⟨freeSlot s.xlm.sets, a.job, number, routeDest s.pms a.route, staple, a.ordinal, a.ordinal,
        none, 1, 0, 0, false, last⟩ : SetEntry)]).length ≤ 8 := by
        rw [List.length_append, List.length_singleton]; omega
      exact this
  · exact .refl s

theorem joinSet_list (a : Announced) (s : State) : (joinSet a s).2.flt = s.flt := by
  unfold joinSet
  split
  · dsimp only
    unfold admitToSet
    split <;> rfl
  · rfl

/-- The `k`-th number after `n`, for a counter in its range (R52). -/
theorem nextNumber_iterate (n k : Nat) (hn : n ≤ 65535) (hk : k ≤ 65535) :
    Nat.iterate nextNumber k n = if n + k ≤ 65535 then n + k else n + k - 65535 := by
  induction k with
  | zero => simp [hn]
  | succ k ih =>
    rw [Function.iterate_succ_apply', ih (by omega)]
    unfold nextNumber
    split_ifs <;> omega

/-- The `k`-th number after a counter above its range. -/
theorem nextNumber_iterate_above (n k : Nat) (hn : 65535 < n) : Nat.iterate nextNumber k n = n + k := by
  induction k with
  | zero => rfl
  | succ k ih =>
    rw [Function.iterate_succ_apply', ih]
    unfold nextNumber
    rw [if_neg (by omega)]
    omega

theorem nextNumber_injective (n : Nat) {i j : Nat} (hi : i < 89) (hj : j < 89)
    (h : Nat.iterate nextNumber i n = Nat.iterate nextNumber j n) : i = j := by
  by_cases hn : n ≤ 65535
  · rw [nextNumber_iterate n i hn (by omega), nextNumber_iterate n j hn (by omega)] at h
    split_ifs at h <;> omega
  · rw [nextNumber_iterate_above n i (by omega), nextNumber_iterate_above n j (by omega)] at h
    omega

/-- The search ends at a free number, or has passed only numbers that are taken. -/
theorem freeNumber_spec (s : State) (k n : Nat) :
    numberTaken s (freeNumber s k n) = false ∨ ∀ i < k, numberTaken s (Nat.iterate nextNumber i n) = true := by
  induction k generalizing n with
  | zero => exact .inr fun i hi => absurd hi (by omega)
  | succ k ih =>
    unfold freeNumber
    split
    · rename_i h
      rcases ih (nextNumber n) with f | f
      · exact .inl f
      · refine .inr fun i hi => ?_
        cases i with
        | zero => exact h
        | succ i => exact f i (by omega)
    · rename_i h
      exact .inl (by simpa using h)

/-- The numbers that are taken. -/
def heldNumbers (s : State) : List Nat :=
  s.flt.list.map (·.sheet) ++ s.rpq.queue.filterMap fun e => match e with
    | .sheet _ k _ _ _ _ _ _ => some k
    | _ => none

theorem numberTaken_held {s : State} {n : Nat} (h : numberTaken s n = true) : n ∈ heldNumbers s := by
  simp only [numberTaken, Bool.or_eq_true, List.any_eq_true] at h
  simp only [heldNumbers, List.mem_append, List.mem_map, List.mem_filterMap]
  rcases h with ⟨r, hr, e⟩ | ⟨x, hx, e⟩
  · exact .inl ⟨r, hr, by simpa using e⟩
  · refine .inr ⟨x, hx, ?_⟩
    cases x with
    | sheet => simpa using e
    | set => simp at e
    | overflow => simp at e

/-- A part within its capacities finds a free sheet number (R52). -/
theorem sheetNumber_free (s : State) (hl : s.flt.list.length ≤ 24) (hq : s.rpq.queue.length ≤ 64) :
    numberTaken s (sheetNumber s) = false := by
  rcases freeNumber_spec s 89 s.flt.counter with f | f
  · exact f
  · exfalso
    have hsub : (List.range 89).map (fun i => Nat.iterate nextNumber i s.flt.counter) ⊆ heldNumbers s := by
      intro x hx
      obtain ⟨i, hi, rfl⟩ := List.mem_map.mp hx
      exact numberTaken_held (f i (List.mem_range.mp hi))
    have hnd : ((List.range 89).map fun i => Nat.iterate nextNumber i s.flt.counter).Nodup :=
      List.Nodup.map_on (fun i hi j hj h => nextNumber_injective _ (List.mem_range.mp hi) (List.mem_range.mp hj) h)
        List.nodup_range
    have := (hnd.subperm hsub).length_le
    have hf := List.length_filterMap_le (fun e : ReprintEntry => match e with
      | .sheet _ k _ _ _ _ _ _ => some k
      | _ => none) s.rpq.queue
    simp only [heldNumbers, List.length_append, List.length_map, List.length_range] at this
    omega

theorem admit_ordinary (k t : Byte) (a : Announced) (s : State) (h : s.flt.list.length < 24) (f : setsFull s a = false) :
    Ordinary s (admitSheet k t a s) := by
  unfold admitSheet
  dsimp only
  have h1 : Ordinary s { s with flt := { s.flt with counter := nextNumber (sheetNumber s) } } :=
    ⟨rfl, rfl, rfl, rfl, rfl, rfl, rfl, rfl, List.prefix_refl _, fun w => { w with owed := rfl, ended := rfl }⟩
  have h2 := h1.trans (joinSet_ordinary a _ f)
  have hl := joinSet_list a { s with flt := { s.flt with counter := nextNumber (sheetNumber s) } }
  generalize joinSet a { s with flt := { s.flt with counter := nextNumber (sheetNumber s) } } = p at h2 hl ⊢
  have h3 : ∀ r : Record, r.sheet = sheetNumber s → Ordinary s (setPath .running (setList (p.2.flt.list ++ [r]) p.2)) :=
    fun r hr => ⟨h2.pms, h2.pins, h2.pending, h2.sys, h2.rows, h2.rx, h2.deaf, h2.tx, h2.notices, fun w => { h2.stores w with
      records := by
        have : (p.2.flt.list ++ [r]).length ≤ 24 := by
          rw [hl, List.length_append, List.length_singleton]; exact h
        exact this
      distinct := by
        have hfree := sheetNumber_free s w.records w.entries
        have : ((p.2.flt.list ++ [r]).map (·.sheet)).Nodup := by
          rw [hl, List.map_append, List.map_singleton, List.nodup_append]
          refine ⟨w.distinct, List.nodup_singleton _, ?_⟩
          intro x hx y hy e
          rw [List.mem_singleton] at hy
          obtain ⟨q, hq, rfl⟩ := List.mem_map.mp hx
          have : numberTaken s (sheetNumber s) = true := by
            simp only [numberTaken, Bool.or_eq_true, List.any_eq_true]
            exact .inl ⟨q, hq, by rw [e, hy, hr]; exact beq_self_eq_true _⟩
          rw [hfree] at this
          exact absurd this (by simp)
        exact this
      owed := rfl, ended := rfl }⟩
  refine Ordinary.trans ?_ (done_ordinary _ _ _ _)
  refine Ordinary.trans ?_ (handOffStep_ordinary _ _)
  split
  · exact (h3 _ rfl).trans (rederiveAt_ordinary _ _ _)
  · exact h3 _ rfl

theorem performSheet_ordinary (k t : Byte) (route : Nat) (a : Option Announced) (s : State) :
    Ordinary s (performSheet k t route a s) := by
  unfold performSheet
  split
  · exact refuse_ordinary ..
  · split
    · exact refuse_ordinary ..
    · rename_i h
      split
      · exact refuse_ordinary ..
      · split
        · exact refuse_ordinary ..
        · split
          · exact refuse_ordinary ..
          · split
            · exact refuse_ordinary ..
            · rename_i f
              exact admit_ordinary _ _ _ s (by simpa [Config.maxRecords] using h) (by simpa using f)

theorem resumeResidual_ordinary (t : Byte) (n : Nat) (s : State) : Ordinary s (resumeResidual t n s) :=
  (((setJam_ordinary _ s).trans (enterClearing_ordinary _)).trans (post_ordinary _ _)).trans (done_ordinary _ _ _ _)

theorem resumeRuns_ordinary (t : Byte) (s : State) : Ordinary s (resumeRuns t s) := by
  unfold resumeRuns
  dsimp only
  refine Ordinary.trans ?_ (.foldl (fun u n => withRec_ordinary judgeStay_ordinary n u) _ _)
  refine Ordinary.trans ?_ (done_ordinary _ _ _ _)
  split
  · exact (mapList_ordinary (rearmed s) (fun _ => rfl) s).trans (enterArmed_ordinary _)
  · exact ((mapList_ordinary (rearmed s) (fun _ => rfl) s).trans (setPath_ordinary _ _)).trans (rederiveAll_ordinary _)

theorem performResume_ordinary (t : Byte) (s : State) : Ordinary s (performResume t s) := by
  unfold performResume
  split
  · dsimp only
    have h : Ordinary s (setRpq { s.rpq with abandoned := [] } (setJam .empty s)) :=
      have k : Ordinary (setJam .empty s) (setRpq { s.rpq with abandoned := [] } (setJam .empty s)) :=
        setRpq_ordinary fun w => w
      (setJam_ordinary _ s).trans k
    split
    · exact h.trans (resumeResidual_ordinary _ _ _)
    · exact h.trans (resumeRuns_ordinary _ _)
  · exact refuse_ordinary ..

theorem abandonSet_ordinary (s : State) (e : SetEntry) : Ordinary s (abandonSet s e) := by
  unfold abandonSet
  split
  · exact (cancelSet_ordinary e s).trans (dropSet_ordinary _ _)
  · exact dropSet_ordinary _ s

theorem performAbandon_ordinary (t : Byte) (job : Nat) (s : State) : Ordinary s (performAbandon t job s) := by
  have h : Ordinary s (giveRemove (keptOf job) (setRpq (dropEntries job s.rpq) s)) :=
    (setRpq_ordinary (q := dropEntries job s.rpq) (s := s)
      (fun w => (List.length_filter_le _ _).trans w)).trans (giveRemove_ordinary _ _)
  unfold performAbandon
  split
  · dsimp only
    refine Ordinary.trans ?_ (done_ordinary _ _ _ _)
    have h2 := h.trans (.foldl abandonSet_ordinary (s.xlm.sets.filter fun e => e.job == job) _)
    split
    · exact h2.trans (setPath_ordinary _ _)
    · exact h2
  · exact refuse_ordinary ..

theorem performTake_ordinary (t : Byte) (n : Nat) (s : State) : Ordinary s (performTake t n s) := by
  unfold performTake
  split
  · refine (setRpq_ordinary (q := taken n s.rpq) (s := s) fun w => ?_).trans (done_ordinary _ _ _ _)
    exact Nat.le_trans (by simp [taken]) w
  · exact refuse_ordinary ..

/-- What LINES stores keeps within the ten sources, and for HALT holds the forced ones (R186). -/
theorem storedSet_spec {l e v : Nat} (h : storedSet l e = some v) : v < 1024 ∧ (l = 0 → v &&& 0x00F = 0x00F) := by
  unfold storedSet at h
  split at h
  · cases h
  · rename_i hl
    have he : e < 2 ^ 10 := by omega
    split at h
    · split at h
      · cases h
        refine ⟨Nat.or_lt_two_pow he (by decide), fun _ => ?_⟩
        apply Nat.eq_of_testBit_eq
        intro i
        simp only [Nat.testBit_and, Nat.testBit_or]
        cases Nat.testBit 15 i <;> simp
      · cases h
    · rename_i h0
      cases h
      exact ⟨he, fun z => absurd z h0⟩

theorem performLines_ordinary (t : Byte) (l e : Nat) (s : State) : Ordinary s (performLines t l e s) := by
  unfold performLines
  split
  · rename_i v hv
    obtain ⟨hb, hf⟩ := storedSet_spec hv
    refine Ordinary.trans (t := setClk (setEnable l v s.clk) s) ?_ (done_ordinary _ _ _ _)
    unfold setEnable
    split
    · exact ⟨rfl, rfl, rfl, rfl, rfl, rfl, rfl, rfl, List.prefix_refl _,
        fun w => { w with enables := { w.enables with halt := hb, forced := hf rfl }, owed := rfl, ended := rfl }⟩
    · exact ⟨rfl, rfl, rfl, rfl, rfl, rfl, rfl, rfl, List.prefix_refl _,
        fun w => { w with enables := { w.enables with attn := hb }, owed := rfl, ended := rfl }⟩
    · exact ⟨rfl, rfl, rfl, rfl, rfl, rfl, rfl, rfl, List.prefix_refl _,
        fun w => { w with enables := { w.enables with aux := hb }, owed := rfl, ended := rfl }⟩
  · exact refuse_ordinary ..

theorem dropNow_ordinary (t : Byte) (s : State) : Ordinary s (dropNow t s) := by
  unfold dropNow
  dsimp only
  have h : Ordinary s (setSpm { s.spm with pendingMark := false, dropWait := none } s) := setSpm_ordinary rfl
  split
  · exact (h.trans (setSpm_ordinary (addOp_rows _ _))).trans (replyLater_ordinary _ _ _)
  · exact h.trans (done_ordinary _ _ _ _)

theorem performSnapDrop_ordinary (t : Byte) (s : State) : Ordinary s (performSnapDrop t s) := by
  unfold performSnapDrop
  split
  · exact refuse_ordinary ..
  · split
    · have h : Ordinary s (setSpm { s.spm with dropWait := some t } s) := setSpm_ordinary rfl
      exact h.trans (replyLater_ordinary _ _ _)
    · exact dropNow_ordinary t s

theorem adoptSnapshot_ordinary (t : Byte) (s : State) : Ordinary s (adoptSnapshot t s) := by
  have h : ∀ es : List ReprintEntry, ∀ u, Ordinary u (es.foldl (fun s e => offerEntry e s) u) := fun es u =>
    .foldl (fun s e => offerEntry_ordinary e s) es u
  unfold adoptSnapshot
  dsimp only
  exact (((h _ s).trans (h _ _)).trans (setSpm_ordinary (by simp))).trans (replyLater_ordinary _ _ _)

theorem performSnapAdopt_ordinary (t : Byte) (s : State) : Ordinary s (performSnapAdopt t s) := by
  unfold performSnapAdopt
  split
  · exact refuse_ordinary ..
  · split
    · exact adoptSnapshot_ordinary t s
    · exact done_ordinary ..

theorem performQueryZones_ordinary (t : Byte) (p : Nat) (s : State) : Ordinary s (performQueryZones t p s) := by
  unfold performQueryZones
  split
  · exact done_ordinary ..
  · exact refuse_ordinary ..

theorem performQuerySheet_ordinary (t : Byte) (n : Nat) (s : State) : Ordinary s (performQuerySheet t n s) := by
  unfold performQuerySheet
  split
  · exact done_ordinary ..
  · exact refuse_ordinary ..

theorem performQueryFlight_ordinary (t : Byte) (p : Nat) (s : State) : Ordinary s (performQueryFlight t p s) := by
  unfold performQueryFlight
  split
  · exact done_ordinary ..
  · exact refuse_ordinary ..

theorem performQuerySets_ordinary (t : Byte) (p : Nat) (s : State) : Ordinary s (performQuerySets t p s) := by
  unfold performQuerySets
  split
  · exact done_ordinary ..
  · exact refuse_ordinary ..

theorem performQuerySnapshot_ordinary (t : Byte) (a b : Nat) (s : State) : Ordinary s (performQuerySnapshot t a b s) := by
  unfold performQuerySnapshot
  split
  · exact refuse_ordinary ..
  · exact done_ordinary ..

/-! ## Events -/

theorem gateReads_ordinary (b : Bool) (s : State) (p : Nat × GateEntry) : Ordinary s (gateReads b s p) := by
  unfold gateReads
  dsimp only
  split
  · refine Ordinary.trans ?_ (guardJudge_ordinary _ _)
    split
    · exact (setGate_ordinary _ _ s).trans (gateJam_ordinary _ _ _ _ _)
    · exact setGate_ordinary _ _ s
  · split
    · exact (setGate_ordinary _ _ s).trans (gateJam_ordinary _ _ _ _ _)
    · exact setGate_ordinary _ _ s

theorem feedbackFlips_ordinary (l : Nat) (b : Bool) (s : State) : Ordinary s (feedbackFlips l b s) := by
  have h : Ordinary s { s with sfe := { s.sfe with
      feedback := s.sfe.feedback.set l b, feedbackRun := s.sfe.feedbackRun.set l 0 } } :=
    ⟨rfl, rfl, rfl, rfl, rfl, rfl, rfl, rfl, List.prefix_refl _,
      fun w => { w with feedback := by simpa using w.feedback, feedbackRun := by simpa using w.feedbackRun, owed := rfl, ended := rfl }⟩
  exact (h.trans (.foldl (gateReads_ordinary b) _ _)).trans (gateTestStep_ordinary _)

theorem failSwitch_ordinary (g : Nat) (e : GateEntry) (s : State) : Ordinary s (failSwitch g e s) := by
  unfold failSwitch
  dsimp only
  split
  · exact (gateJam_ordinary _ _ _ _ _).after (setGate_ordinary _ _ s)
  · exact (gateTestFails_ordinary _ _).after ((setGate_ordinary _ _ _).after (setGate_ordinary _ _ s))

theorem countEdge_ordinary (z p : Nat) (b : Bool) (s : State) : Ordinary s (countEdge z p b s) :=
  (((setZone_ordinary _ _ s).trans (setQuiet_ordinary _ _)).trans (takeIncrement_ordinary _ _)).trans (guardEdges_ordinary _ _)

theorem handStall_ordinary (z : Nat) (e : ZoneEntry) (s : State) : Ordinary s (handStall z e s) := by
  unfold handStall
  split
  · exact raiseJam_ordinary ..
  · exact raiseJam_ordinary ..
  · exact post_ordinary ..
  · exact post_ordinary ..
  all_goals exact .refl s

theorem discardSet_ordinary (s : State) (e : SetEntry) : Ordinary s (discardSet s e) :=
  ((offerEntry_ordinary _ s).trans (cancelSet_ordinary _ _)).trans (dropSet_ordinary _ _)

theorem passZero_ordinary (s : State) : Ordinary s (passZero s).2 :=
  (Ordinary.foldl discardSet_ordinary _ s).trans (.foldl (fun u r => takeOut_ordinary r .voided u) _ _)

theorem enterRunout_ordinary (s : State) : Ordinary s (enterRunout s) :=
  ((setPath_ordinary _ s).trans (runOutZones_ordinary _ _)).trans (rederiveAll_ordinary _)

theorem writePlan_ordinary (z : PassZero) (s : State) : Ordinary s (writePlan z s) := by
  unfold writePlan
  dsimp only
  split
  · exact (enterRunout_ordinary _).after ((post_ordinary _ _).after (mapList_ordinary _ (by intro _; rfl) s))
  · exact (decideRecovery_ordinary _).after ((post_ordinary _ _).after (mapList_ordinary _ (by intro _; rfl) s))

theorem writeBack_ordinary (s : State) : Ordinary s (writeBack s) :=
  ((mapList_ordinary _ (by intro _; rfl) s).trans (setHeld_ordinary _ _)).trans (decideRecovery_ordinary _)

theorem takeStandstill_ordinary (s : State) : Ordinary s (takeStandstill s) := by
  unfold takeStandstill
  split
  · exact writeBack_ordinary s
  · exact (passZero_ordinary s).trans (writePlan_ordinary _ _)

theorem lateTime_ordinary (r : Record) (e : LeadExp) (s : State) : Ordinary s (lateTime r e s) := raiseSheet_ordinary ..

theorem stayTime_ordinary (r : Record) (e : TrailExp) (s : State) : Ordinary s (stayTime r e s) := raiseSheet_ordinary ..

theorem firstExpiry_ordinary (r : Record) (e : LeadExp) (s : State) : Ordinary s (firstExpiry r e s) :=
  (putRec_ordinary _ s).trans (post_ordinary _ _)

theorem secondExpiry_ordinary (r : Record) (e : LeadExp) (s : State) : Ordinary s (secondExpiry r e s) := raiseSheet_ordinary ..

theorem remoteLate_ordinary (r : Record) (e : LeadExp) (b : Nat) (s : State) : Ordinary s (remoteLate r e b s) := raiseSheet_ordinary ..

theorem countMiss_ordinary (k : Nat) (s : State) : Ordinary s (countMiss k s) := by
  unfold countMiss
  dsimp only
  split
  · split
    · exact loseStation_ordinary _ _ s
    · exact setStation_ordinary id id id
  · exact .refl s

theorem endExchange_ordinary (s : State) : Ordinary s (endExchange s) := by
  unfold endExchange
  split
  · exact (setExchange_ordinary none s).trans (countMiss_ordinary _ _)
  · exact .refl s

theorem sendPoll_ordinary (k : Nat) (s : State) : Ordinary s (sendPoll k s) := by
  have h : ∀ u : State, ∀ n x,
      Ordinary u { u with xlm := { u.xlm with lastPolled := k, pollChars := n, exchange := x } } := fun u n x =>
    ⟨rfl, rfl, rfl, rfl, rfl, rfl, rfl, rfl, List.prefix_refl _, fun w => { w with owed := rfl, ended := rfl }⟩
  unfold sendPoll
  dsimp only
  split
  · exact (h _ _ _).after (setStation_ordinary id id id)
  · exact h _ _ _

theorem startSlot_ordinary (s : State) : Ordinary s (startSlot s) := by
  unfold startSlot
  dsimp only
  have h : Ordinary (endExchange s) { endExchange s with xlm := { (endExchange s).xlm with slot := 0, pollChars := 0 } } :=
    ⟨rfl, rfl, rfl, rfl, rfl, rfl, rfl, rfl, List.prefix_refl _, fun w => { w with owed := rfl, ended := rfl }⟩
  split
  · exact ((endExchange_ordinary s).trans h).trans (sendPoll_ordinary _ _)
  · exact (endExchange_ordinary s).trans h

theorem stationAnswers_ordinary (k : Nat) (s : State) : Ordinary s (stationAnswers k s) := by
  unfold stationAnswers
  dsimp only
  split
  · exact (stationNotice_ordinary _ _ _).after (setStation_ordinary id id id)
  · exact setStation_ordinary id id id

theorem erase_all_length {α : Type} [BEq α] (xs l : List α) : (xs.foldl List.erase l).length ≤ l.length := by
  induction xs generalizing l with
  | nil => exact Nat.le_refl _
  | cons x xs ih => exact (ih _).trans (List.length_erase_le)

theorem acknowledge_ordinary (x : Exchange) (s : State) : Ordinary s (acknowledge x s) :=
  setStation_ordinary (fun h => (erase_all_length _ _).trans h) (fun h => (erase_all_length _ _).trans h) id

theorem takeReport_ordinary (k lag : Nat) (s : State) (r : EdgeReport) : Ordinary s (takeReport k lag s r) := by
  refine (closeEvent_ordinary s).trans ?_
  unfold takeReport
  dsimp only
  split
  · split
    · exact takeRemoteTrail_ordinary ..
    · exact takeRemoteLead_ordinary ..
  · exact stationNotice_ordinary ..

theorem takeCompile_ordinary (k : Nat) (c : Nat × Nat × Bool) (s : State) : Ordinary s (takeCompile k c s) := by
  unfold takeCompile
  split
  · dsimp only
    split
    · split
      · exact (dropSet_ordinary _ _).after (putSet_ordinary _ s)
      · exact (stationNotice_ordinary _ _ _).after (putSet_ordinary _ s)
    · exact putSet_ordinary _ s
  · exact stationNotice_ordinary ..

theorem takeJamFlag_ordinary (k : Nat) (f : Bool) (a : Nat) (s : State) : Ordinary s (takeJamFlag k f a s) := by
  unfold takeJamFlag
  dsimp only
  have h : Ordinary s (setStation k { stationAt s k with
      jamFlag := f, jamArea := if f then some a else (stationAt s k).jamArea } s) := setStation_ordinary id id id
  have h2 : Ordinary s (if (stationAt s k).jamFlag = f
      then setStation k { stationAt s k with jamFlag := f, jamArea := if f then some a else (stationAt s k).jamArea } s
      else stationNotice k (.jam f (if f then some a else none))
        (setStation k { stationAt s k with jamFlag := f, jamArea := if f then some a else (stationAt s k).jamArea } s)) := by
    split
    · exact h
    · exact h.trans (stationNotice_ordinary _ _ _)
  generalize (if (stationAt s k).jamFlag = f then _ else _ : State) = u at h2 ⊢
  split
  · exact h2.trans (raiseJam_ordinary _ _ _)
  · exact h2

theorem takeCover_ordinary (k : Nat) (s : State) (p : Nat × Option Bool) : Ordinary s (takeCover k s p) := by
  unfold takeCover
  split
  · dsimp only
    split
    · exact (coverChanged_ordinary _ _ _).after (setStation_ordinary id id fun h => by simpa using h)
    · exact .refl s
  · exact .refl s

theorem takeReply_ordinary (x : Exchange) (r : StationReport) (lag : Nat) (s : State) : Ordinary s (takeReply x r lag s) := by
  unfold takeReply
  dsimp only
  have h0 : Ordinary s (acknowledge x (stationAnswers x.station (setExchange none s))) :=
    ((setExchange_ordinary none s).trans (stationAnswers_ordinary _ _)).trans (acknowledge_ordinary _ _)
  have h1 := (h0.trans (.foldl (takeReport_ordinary x.station lag) r.edges _)).trans
    (.foldl (takeFinal_ordinary x.station) r.finals _)
  refine Ordinary.trans ?_ (.foldl (takeCover_ordinary x.station) _ _)
  refine Ordinary.trans ?_ (takeJamFlag_ordinary _ _ _ _)
  split
  · exact h1.trans (takeCompile_ordinary _ _ _)
  · exact h1

theorem takeFrame_ordinary (f : LinkFrame) (lag : Nat) (s : State) : Ordinary s (takeFrame f lag s) := by
  unfold takeFrame
  split
  · split
    · split
      · exact takeReply_ordinary ..
      · exact endExchange_ordinary s
    · exact endExchange_ordinary s
  · exact .refl s

theorem becomePresent_ordinary (k : Nat) (s : State) : Ordinary s (becomePresent k s) :=
  (stationNotice_ordinary _ _ _).after (setStation_ordinary id id id)

theorem becomeAbsent_ordinary (k : Nat) (s : State) : Ordinary s (becomeAbsent k s) := by
  unfold becomeAbsent
  dsimp only
  have h : Ordinary s (setStation k { stationAt s k with
      present := false, presenceCount := 0, link := .absent, miss := 0, retry := 0, handOffs := [] } s) :=
    setStation_ordinary (fun _ => Nat.zero_le _) id id
  refine Ordinary.trans ?_ (linkLost_ordinary _ _)
  refine Ordinary.trans ?_ (dueForStation_ordinary _ _)
  refine Ordinary.trans ?_ (stationNotice_ordinary _ _ _)
  split
  · exact h.trans (setExchange_ordinary none _)
  · exact h

theorem becomeWarn_ordinary (s : State) : Ordinary s (becomeWarn s) := by
  have h : Ordinary s (setSpm { s.spm with warn := true, warnTimer := 0, recTimer := 0 } s) := setSpm_ordinary rfl
  exact ((h.trans (raiseJam_ordinary _ _ _)).trans (takeSnapshot_ordinary _ _)).trans (post_ordinary _ _)

theorem becomeNormal_ordinary (s : State) : Ordinary s (becomeNormal s) := by
  have h : Ordinary s (setSpm { s.spm with warn := false, warnTimer := 0, recTimer := 0 } s) := setSpm_ordinary rfl
  exact h.trans (post_ordinary _ _)

end Sys2Proof.Machine
end

