-- ==== Sys2Proof/Tests/Slice0.lean ====
section
/-! SUPPORT. Tests: one ill-formed command for each check of `Instr.wf`; the figures that the spec itself works out; and, for every
statement with hypotheses, a state and operands that meet them. -/

set_option Elab.async false

namespace Sys2Proof.Tests

open Machine

/-! ## States -/

/-- Started, nothing else done: CONFIG, an empty map. -/
def awake : State := { State.reset with sys := { State.reset.sys with live := true } }

def sensor (line : Nat) : NodeEntry := ⟨.sensor, 0, some line, some 800, some false, none, none, none⟩
def mark : NodeEntry := ⟨.mark, 0, none, none, none, none, none, none⟩
def dest (station : Option Nat) : NodeEntry := ⟨.dest, 0, none, none, none, if station = none then some false else none, station, none⟩
def path (a b : Nat) : SegEntry := ⟨a, b, 600, 0, 0, .path, 20, 40, 30, true, false, none⟩
def feed : SegEntry := ⟨0, 1, 1500, 0, 0, .feed, 50, 150, 80, false, false, none⟩
def gateEntry : GateEntry := ⟨3, 3, 4, 25, 150, 0, 0⟩
def paper : MediaEntry := ⟨2970, 20, 800, 25, true⟩

/-- A path of three sensors from the tray, node 0, to a destination, node 4: one zone, one cover, one route. -/
def map (station : Option Nat) : MapStore where
  params := some ⟨100, 50, 75⟩
  nodes := [some mark, some (sensor 0), some (sensor 1), some (sensor 2), some (dest station)] ++ List.replicate 27 none
  segs := [some feed, some (path 1 2), some (path 2 3), some (path 3 4)] ++ List.replicate 44 none
  routes := some ⟨[0, 1, 2, 3], false⟩ :: List.replicate 15 none
  areas := some ⟨.line 0, 1⟩ :: List.replicate 11 none
  zones := some ⟨600, 300, 700, 100, 100⟩ :: List.replicate 7 none
  gates := List.replicate 6 none
  media := some paper :: List.replicate 15 none

/-- The same path with a gate at node 3, whose position 1 leads to a second destination. -/
def gateMap : MapStore :=
  { map none with
    nodes := [some mark, some (sensor 0), some (sensor 1), some (sensor 2), some (dest none), some (dest none)] ++
      List.replicate 26 none
    segs := [some feed, some (path 1 2), some (path 2 3), some (path 3 4), some (path 3 5)] ++ List.replicate 43 none
    routes := [some ⟨[0, 1, 2, 3], false⟩, some ⟨[0, 1, 2, 4], false⟩] ++ List.replicate 14 none
    gates := some gateEntry :: List.replicate 5 none }

/-- In a path state, on a map, every sensor calibrated at 800 and reading 900. -/
def at_ (p : PathState) (m : MapStore) : State :=
  { awake with
    pms := m
    rcv := { awake.rcv with path := p }
    sfe := { awake.sfe with nodes := List.replicate 32 ⟨some 900, some 800, .clear, 0, .ok⟩ } }

/-- The lead of a sheet on its second step, from node 1 to node 2, its trail on the first; its travel window runs from
58000 to 64000 µm. -/
def sheet : Record where
  sheet := 1
  job := 4
  ordinal := 20
  route := 0
  unordered := false
  media := some 0
  declared := 2970
  tolerance := 20
  doubleMargin := 800
  slip := 0
  measured := none
  pageA := 7
  pageB := none
  setPart := none
  progress := .moving
  lead := ⟨2, 0, 0⟩
  trailStep := 1
  depth := none
  sideA := none
  sideB := none
  repick := 0
  leadExp := some ⟨.travel, 2, 0, 0, 58000, 64000, 30, some 244, 0, none⟩
  trailExp := none
  arrivals := [⟨1, 0, 0, 0, false⟩]
  handOff := false
  purgeJoin := none
  disp := none

/-- `at_` on the path with a gate, in a state. -/
def gated (p : PathState) (q : GateState) : State := setGate 0 q (at_ p gateMap)

/-- `at_` with records, zone 0 at 300 mm/s and a travel. -/
def carrying (p : PathState) (rs : List Record) (travel : Nat) : State :=
  let s := at_ p (map none)
  { s with
    flt := ⟨rs, 2⟩
    zdu := { s.zdu with zones := s.zdu.zones.set 0 { ZoneState.reset 0 with speed := 300, duty := 428, travel := BitVec.ofNat 32 travel } } }

/-- `carrying` on another map. -/
def onMap (m : MapStore) (p : PathState) (rs : List Record) (travel : Nat) : State := { carrying p rs travel with pms := m }

/-- A station that is there and answers. -/
def online : StationState := { StationState.reset with present := true, link := .online }

/-- `at_` on the path to station 1, ONLINE, with an open POLL. -/
def polling (p : PathState) (q : StationState) : State :=
  let s := at_ p (map (some 1))
  { s with xlm := { s.xlm with stations := s.xlm.stations.set 0 q, exchange := some ⟨1, [], [], []⟩ } }

/-- The path whose node 2 is a TRANSFER, which two working sensors stand around. -/
def transferMap : MapStore :=
  { map none with nodes := (map none).nodes.set 2 (some ⟨.transfer, 0, none, none, none, none, none, none⟩) }

/-- A pocket: a REVERSE segment from node 1, of any kind, to node 2, and the path on from node 1 to node 3. -/
def intoPocket : SegEntry := { path 1 2 with kind := .reverse }
def pocket (e : NodeEntry) : MapStore :=
  { map none with
    nodes := (map none).nodes.set 1 (some e)
    segs := [some feed, some intoPocket, some (path 1 3), some (path 3 4)] ++ List.replicate 44 none }

/-- The path whose node 3 is at station 1, and its destination too where `d` says so. -/
def toStation (a b : Nat) : SegEntry := { path a b with kind := .remote }
def farMap (d : Option Nat) : MapStore :=
  { map none with
    nodes := [some mark, some (sensor 0), some (sensor 1), some ⟨.remote, 0, none, none, none, none, some 1, some 0⟩,
      some { dest d with localNo := d.map fun _ => 5 }] ++ List.replicate 27 none
    segs := [some feed, some (path 1 2), some (toStation 2 3), some (toStation 3 4)] ++ List.replicate 44 none }

/-- The path with a gate at the end of a first segment of `len` tenths of a mm. -/
def feedGate : GateEntry := ⟨1, 1, 4, 25, 150, 0, 0⟩
def feedMap (len : Nat) : MapStore :=
  { gateMap with
    segs := [some { feed with len := len }, some (path 1 2), some (path 2 3), some (path 3 4), some (path 1 5)] ++
      List.replicate 43 none
    gates := some feedGate :: List.replicate 5 none }

/-! ## Well-formedness: each check refuses -/

theorem test_wf_mapPut_length : (Instr.mapPut 0 0 0 1 [0, 100, 50]).wf = false := by decide
theorem test_wf_mapPut_table : (Instr.mapPut 0 256 0 0 []).wf = false := by decide
theorem test_wf_mapPut_first : (Instr.mapPut 0 0 256 0 []).wf = false := by decide
theorem test_wf_mapPut_count : (Instr.mapPut 0 8 0 256 []).wf = false := by decide +kernel
theorem test_wf_mapPut_payload : (Instr.mapPut 0 8 0 0 (List.replicate 118 0)).wf = false := by decide +kernel
theorem test_wf_mapGet : (Instr.mapGet 0 0 0 256).wf = false := by decide
theorem test_wf_speed : (Instr.speed 0 0 65536 0).wf = false := by decide
theorem test_wf_gate : (Instr.gate 0 256 0).wf = false := by decide
theorem test_wf_sheetS_media : (Instr.sheetS 0 0 0 16 0 0).wf = false := by decide
theorem test_wf_sheetS_route : (Instr.sheetS 0 0 0 0 16 0).wf = false := by decide
theorem test_wf_sheetF_pageB : (Instr.sheetF 0 0 0 0 0 0 0 (some 65535) none 0 0).wf = false := by decide
theorem test_wf_sheetF_set : (Instr.sheetF 0 0 0 0 0 0 0 none (some 65535) 0 0).wf = false := by decide
theorem test_wf_abandon : (Instr.abandon 0 256).wf = false := by decide
theorem test_wf_take : (Instr.take 0 256).wf = false := by decide
theorem test_wf_lines : (Instr.lines 0 0 65536).wf = false := by decide
theorem test_wf_querySheet : (Instr.querySheet 0 65536).wf = false := by decide
theorem test_wf_queryFlight : (Instr.queryFlight 0 256).wf = false := by decide
theorem test_wf_queryZones : (Instr.queryZones 0 256).wf = false := by decide
theorem test_wf_queryNodes : (Instr.queryNodes 0 0 256).wf = false := by decide
theorem test_wf_sensorEdge_line : (Instr.sensorEdge 24 0 0).wf = false := by decide
theorem test_wf_sensorEdge_sample : (Instr.sensorEdge 0 0 1024).wf = false := by decide
theorem test_wf_cover : (Instr.coverEvent 8 true).wf = false := by decide
theorem test_wf_feedback : (Instr.gateFeedback 6 true).wf = false := by decide
theorem test_wf_gateTimeout : (Instr.gateSwitchTimeout 6).wf = false := by decide
theorem test_wf_zone : (Instr.encoderEdge 8 true).wf = false := by decide
theorem test_wf_sheet : (Instr.lateTime 0).wf = false := by decide
theorem test_wf_area : (Instr.areaCheck 12).wf = false := by decide
theorem test_wf_reply : (Instr.stationReply ⟨1, 0, 2, List.replicate 256 0, 0⟩ 0).wf = false := by decide +kernel
theorem test_wf_station : (Instr.stationPresent 0).wf = false ∧ (Instr.stationAbsent 4).wf = false := by decide

/-! ## Figures that the spec works out -/

/-- R178: IDENT with tag 0x05 and no payload has CRC 0x2A. -/
theorem test_crc : crc8 [0x01, 0x05, 0x00] = 0x2A := by decide +kernel

/-- What a command leaves. -/
def after (c : Instr) (s : State) : State :=
  match exec c s with
  | .next t => t
  | .fault _ => s
  | .refused _ => s

/-- 03, "Zone of the example path": zone 2, Vmax 600 and Vfs 700, runs at duty 428 at 300 mm/s, and SPEED 900 is clamped to 600 at
duty 857. -/
theorem test_speed_duty :
    (zoneAt (after (.speed 0 0 300 0) (at_ .armed (map none))) 0).duty = 428 ∧
      (zoneAt (after (.speed 0 0 900 0) (at_ .armed (map none))) 0) = { ZoneState.reset 0 with speed := 600, duty := 857 } := by
  decide +kernel

/-- 05, the pick window of S0 with slip 25: hi 168750 µm and, at 300 mm/s, a budget of 643 ms. -/
theorem test_sheetS_pick :
    (after (.sheetS 0 4 20 0 0 7) (carrying .armed [] 0)).flt.list.map
      (fun r => r.leadExp.map fun e => (e.kind, e.hi, e.budget)) = [some (.pick, 168750, some 643)] := by
  decide +kernel

/-- 05, "the lead window over the fuser stretch": lo 182300 µm, hi 195933 µm, and 694 ms at 300 mm/s; after 120000 µm, 420 ms at
200 mm/s. -/
theorem test_window_figures :
    boundLo 1853 30 = 182300 ∧ boundHi 1853 60 25 = 195933 ∧ formBudget 195933 0 40 300 = some 694 ∧
      formBudget 195933 120000 40 200 = some 420 := by
  decide

/-- 05, "the entrance to a finisher": early 983 ms and late 1109 ms; a report at an elapsed count of 1000 with age 20 is EARLY. -/
theorem test_remote_figures :
    formTimes ⟨.remote, 2, 0, 0, 295000, 317500, 50, none, 0, none⟩ 0 300 = some (983, 1109) := by
  decide

/-- 05, R83's table: the leave travel at a measure node, the length stored and the first cause. The sheet is declared 2970 with
tolerance 20 and double-feed margin 800. -/
def measuredAt (t : Nat) : Option Nat × Option Cause :=
  let s := carrying .running [{ sheet with
    lead := ⟨3, 0, 0⟩, leadExp := none, trailExp := some ⟨1, 0, 0, 400000, 80, none⟩ }] t
  let s := { s with
    pms := { s.pms with nodes := s.pms.nodes.set 1 (some { sensor 0 with measure := some true }) }
    sfe := { s.sfe with nodes := s.sfe.nodes.set 1 ⟨some 100, some 800, .covered, 0, .ok⟩ } }
  let u := after (.sensorEdge 0 700 701) s
  ((u.flt.list.head?.bind (·.measured)), u.rcv.jam.first.map (·.cause))

theorem test_measured_lengths :
    [299099, 299180, 294999, 377099, 377100].map measuredAt =
      [(some 2990, none), (none, some .size), (none, some .size), (none, some .size), (none, some .double)] := by
  decide +kernel

/-- 02, "one sheet past the registration sensor": two samples below the cover level make a LEAD edge, the ragged dip does not. -/
theorem test_sensor_dip :
    let s := at_ .config (map none)
    (nodeAt (after (.sensorEdge 0 402 431) s) 1).level = .clear ∧ (nodeAt (after (.sensorEdge 0 388 141) s) 1).level = .covered := by
  decide +kernel

/-- 02: tracking from 800: a sample 15 below moves nothing, one 30 below moves the baseline by 1. -/
theorem test_tracking : trackedBaseline 820 805 = 820 ∧ trackedBaseline 820 790 = 819 := by decide

/-- 07, "a queue at its limit": from 62 entries, each REMOVED sheet offered in turn. -/
def limit : List Rpq :=
  let e (sheet job ordinal dest : Nat) : ReprintEntry := .sheet .removed sheet job ordinal dest 0 none none
  let q : Rpq := { Rpq.reset with queue := (List.range 62).map fun i => e (1 + i) 8 (1 + i) 4 }
  [e 140 7 31 4, e 141 7 32 4, e 139 7 29 5, e 150 9 4 4].foldl
    (fun acc x => acc ++ [offer x ((acc.getLast?).getD q)]) []

theorem test_reprint_limit :
    limit.map (fun q => (q.queue.length, q.queue.getLast?.map entryOrdinal, q.incomplete)) =
      [(63, some 31, false), (64, some 32, false), (64, some 29, false), (64, some 29, true)] := by
  decide +kernel

/-- 07, R143: a lead held 40000 µm into S8 (L 1600) is re-armed with lo 117000 µm, hi 129000 µm, and 460 ms at 300 mm/s. -/
theorem test_rearmed_window :
    let g : SegEntry := ⟨7, 8, 1600, 4, 3, .path, 30, 60, 30, true, true, none⟩
    let l := lengthLeft g { sheet with lead := ⟨9, 0, 40000⟩ }
    boundLo l 30 = 117000 ∧ boundHi l 60 25 = 129000 ∧ formBudget 129000 0 30 300 = some 460 := by
  decide

/-- 04, "Admission at the host": job 4 holds ordinals 20 and 21 of a stream; 21 is ORDER, 23 on route 3 ROUTE, and 23 on route 0 is
admitted with the next number. -/
theorem test_admission :
    let s := carrying .running [sheet, { sheet with sheet := 2, ordinal := 21 }] 0
    let status (c : Instr) : Option Status := match (after c s).clk.reply with
      | .formed r => some r.status
      | _ => none
    status (.sheetS 0 4 21 0 0 7) = some .order ∧ status (.sheetS 0 4 23 0 3 7) = some .route ∧
      status (.sheetS 0 4 23 0 0 7) = some .done := by
  decide +kernel

/-- R100, R49: the first sheet takes an ARMED path to RUNNING. -/
theorem test_first_sheet_runs : (after (.sheetS 0 4 20 0 0 7) (at_ .armed (map none))).rcv.path = .running := by decide +kernel

/-- R17, R98: ARM on this path, with every sensor clear and no gates, gives ARMED; with a sensor covered, CLEARING. -/
theorem test_arm :
    let s := at_ .config (map none)
    (after (.arm 0) s).rcv.path = .armed ∧
      (after (.arm 0) (setNode 2 ⟨some 100, none, .unset, 0, .ok⟩ s)).rcv.path = .clearing := by
  decide +kernel

/-- R92: the RESIDUAL cause of ARM carries the zone of its node. -/
theorem test_residual_zone :
    (after (.arm 0) (setNode 2 ⟨some 100, none, .unset, 0, .ok⟩ (at_ .config (map none)))).rcv.jam.first.map
      (fun c => (c.cause, c.node, c.zone)) = some (.residual, some 2, some 0) := by
  decide +kernel

/-- R79, R87: an arrival first, then the LATE_TIME that was queued beside it: the next window has its budget, and nothing happens. -/
theorem test_late_time_after_arrival :
    let s := carrying .running [{ sheet with leadExp := some ⟨.travel, 2, 0, 0, 58000, 64000, 30, some 0, 0, none⟩ }] 60000
    let t := after (.lateTime 1) (after (.sensorEdge 1 399 0) s)
    (after (.lateTime 1) s).rcv.path = .halting ∧ t.rcv.path = .running ∧ t.flt.list.map (·.lead.step) = [3] := by
  decide +kernel

/-- R90: a remote window at 3 ms above its late time and the allowance of its stations' polls is LATE, its zone at rest, too. -/
theorem test_remote_late_at_rest :
    let w (n : Nat) : LeadExp := ⟨.remote, 2, 1, 0, 58000, 64000, 30, none, n, some (193, 244)⟩
    let path (n : Nat) : PathState := (after (.remoteLate 1) (carrying .running [{ sheet with leadExp := some (w n) }] 0)).rcv.path
    path 246 = .running ∧ path 247 = .halting := by
  decide +kernel

/-- R45: RESUME with a gate that is expired already toward its position, the sheet within the guard distance, raises no GATE. -/
theorem test_resume_beside_expired_gate :
    let s := setList [{ sheet with lead := ⟨3, 0, 50000⟩, leadExp := none, disp := some .retain }]
      (gated .resumable ⟨some false, .moving, 25, true, true, some 1⟩)
    (after (.resume 0) { s with sfe := { s.sfe with feedback := List.replicate 6 true } }).rcv.path = .running := by
  decide +kernel

/-! ## Witnesses: states and operands that meet the hypotheses of each statement, clause by clause -/

/-- The part as some clauses want it: a pending reply, notices that wait, a row write under way. -/
def waiting (r : PendingReply) (ns : List Notice) (tx : Option TxFrame) : State :=
  { awake with clk := { awake.clk with reply := r, notices := ns, tx := tx } }

def queued (c : List Instr) (s : State) : State := { s with pending := c }
def noisy (s : State) : State := { s with clk := { s.clk with rx := ⟨true, [0x01, 0x05], 0⟩ } }
def short_ (s : State) : State := { s with clk := { s.clk with rx := ⟨true, [0x01], 0⟩ } }
def quiet (s : State) : State := setQuiet 20 s
def writing (ops : List RowOp) (s : State) : State := { s with spm := { s.spm with ops := ops, elapsed := 12 } }
def marked (marker pending : Bool) (s : State) : State := { s with spm := { s.spm with marker := marker, pendingMark := pending } }
def warned (s : State) : State := { s with spm := { s.spm with warn := true } }
def breakable (s : State) : State := { s with clk := { s.clk with breakArmed := true } }
def reading (n y : Nat) (l : Level) (s : State) : State := setNode n ⟨some y, some 800, l, 0, .ok⟩ s
def sampling (s : State) : State := setCalib (some ⟨5, List.replicate 24 16, List.replicate 24 12800, 4⟩) s

/-- A set of job 4 on its way to node 4. -/
def group : SetEntry := ⟨0, 4, 9, 4, false, 20, 20, none, 1, 0, 0, false, false⟩
def grouped (s : State) : State := setSets [group] s

/-- Clearing area 0: its status and whether a check is due. -/
def clearing (l : List Nat) (st : AreaStatus) (due : List Nat) : State :=
  setDue due (setClearance l (setArea 0 ⟨st, 300⟩ (at_ .clearing (map none))))

def jam (c : Cause) (sheet : Option Nat) : JamCause := ⟨c, sheet, none, none, none, none, 0⟩

/-- Halted at a standstill: a first cause, perhaps a second, and records. -/
def haltedBy (second : Option JamCause) (held : List (Nat × Disp)) (rs : List Record) : State :=
  setHeld held (setJam ⟨some (jam .late (some 1)), second, []⟩ (quiet (setList rs (at_ .halting (map none)))))

/-- R38's two conditions. -/
abbrev still (s : State) : Prop := (∀ q ∈ s.zdu.zones, q.speed = 0) ∧ 20 ≤ s.zdu.quiet

theorem witness_IdleBringsTime :
    (State.reset.pending = [] ∧ State.reset.sys.live = false) ∧
    ((haltedBy none [] []).pending = [] ∧ (haltedBy none [] []).sys.live = true ∧ (haltedBy none [] []).rcv.path = .halting ∧
      still (haltedBy none [] [])) ∧
    (awake.pending = [] ∧ awake.sys.live = true ∧ dueNow awake = [] ∧ (awake.flt.list.map (·.sheet)).Nodup) := by
  decide +kernel

/-- Every timer of the part at its last millisecond but one, the supply warned or not, and a sheet's windows. -/
def busy (warn : Bool) (lead : LeadExp) (repick : Nat) : State :=
  let s := onMap gateMap .running [{ sheet with repick := repick, leadExp := some lead, trailExp := some ⟨1, 0, 0, 301000, 80, some 1⟩ }] 0
  let s := setArea 0 ⟨.checking, 299⟩ (setGate 0 ⟨some true, .moving, 24, false, false, none⟩ (setZone 0 { zoneAt s 0 with age := 99 } s))
  { s with
    pins := { s.pins with supplyLow := !warn }
    xlm := { s.xlm with
      stations := s.xlm.stations.set 0 { StationState.reset with link := .lost, retry := 99 }, slot := 2, exchange := some ⟨1, [], [], []⟩ }
    spm := { s.spm with
      warn := warn, warnTimer := 1, recTimer := 49, ops := [⟨.invalidate, [(0, List.replicate 16 0)]⟩], elapsed := 2 } }

theorem witness_IdleBringsTime_timers :
    let w (k : LeadKind) : LeadExp :=
      if k = .remote then ⟨k, 2, 0, 0, 58000, 64000, 30, none, 249, some (193, 244)⟩ else ⟨k, 2, 0, 0, 58000, 64000, 30, some 1, 0, none⟩;
    (∀ warn ∈ [false, true], ∀ x ∈ [(w .travel, 0), (w .pick, 0), (w .pick, 1), (w .remote, 0)],
      let s := busy warn x.1 x.2;
      s.pending = [] ∧ s.sys.live = true ∧ dueNow s = [] ∧ (s.flt.list.map (·.sheet)).Nodup ∧ s.rcv.path = .running ∧
      s.xlm.stations.length = 3 ∧ s.spm.warn = warn ∧ s.spm.ops ≠ []) ∧
    (let s := busy false (w .travel) 0;
      s.pms.zone? 0 = some ⟨600, 300, 700, 100, 100⟩ ∧ 0 < s.zdu.zones.length ∧ s.pms.zone? 1 = none ∧
      s.pms.gate? 0 = some gateEntry ∧ 0 < s.zdu.gates.length ∧ 0 < s.clm.areas.length) := by
  decide +kernel

theorem witness_HardResets :
    rowInProgress awake.spm = none ∧
      rowInProgress (writing [⟨.invalidate, [(0, List.replicate 16 0)]⟩] awake).spm = some 0 := by
  decide +kernel

theorem witness_StartTakesPins : awake.sys.live = true ∧ State.reset.sys.live = false ∧ Room 1 State.reset := by
  unfold Room; decide +kernel

theorem witness_IdentAnswers : Ready awake := by unfold Ready Settled; decide +kernel

theorem witness_RequestsParseBack :
    (Instr.sheetF 1 255 65535 255 255 65535 65535 (some 65534) (some 65534) 65535 255).wf = true ∧
      (encodeRequest (.sheetF 1 255 65535 255 255 65535 65535 (some 65534) (some 65534) 65535 255)).isSome = true ∧
    (Instr.sheetS 1 255 65535 15 15 65535).wf = true ∧ (encodeRequest (.sheetS 1 255 65535 15 15 65535)).isSome = true := by
  decide +kernel

theorem witness_FramesAreRequests :
    (Instr.speed 1 7 65535 1).wf = true ∧ Settled (noisy awake) ∧
      encodeRequest (.speed 1 7 65535 1) = some (0x08, 1, [7, 0xFF, 0xFF, 1]) := by
  unfold Settled; decide +kernel

theorem other_byte (x : Byte) : ∃ c, c ≠ x :=
  if h : x = 0 then ⟨1, by simp [h]⟩ else ⟨0, Ne.symm h⟩

theorem witness_BadFramesRefused :
    (Ready awake ∧ (List.replicate 120 (0 : Byte)).length ≤ 120 ∧
      ∃ crc, crc ≠ crc8 ((0x01 : Byte) :: 5 :: 120 :: List.replicate 120 0)) ∧
    (120 < (121 : Byte).toNat ∧ 0x12 < (0x13 : Byte).toNat ∧ ([] : List Byte).length ≤ 120 ∧ 12 < (13 : Byte).toNat) ∧
    (((0x12 : Byte).toNat, 0) = (0x12, 0) ∧ [(0 : Byte)].length ≠ 0 ∧ ([1, 0, 1, 0] : List Byte) = 1 :: 0 :: 1 :: [0] ∧
      [4, 9, 15, 22, 4, 10, 8, 7][(1 : Byte).toNat]? = some 9 ∧ [(0 : Byte)].length ≠ (1 : Byte).toNat * 9 ∧
      [(2 : Byte)] = 2 :: [] ∧ ((2 : Byte).toNat, 2) = (2, 2) ∧ ([] : List Byte).length ≠ 2) ∧
    ((120 : Byte).toNat ≤ 120 ∧ (List.replicate 120 (0 : Byte)).length ≤ (120 : Byte).toNat) ∧
    ((noisy awake).sys.live = true ∧ (noisy awake).clk.deaf = false ∧ (noisy awake).clk.reply = .none ∧
      Settled (noisy awake) ∧ (noisy awake).clk.rx.inFrame = true ∧ (noisy awake).clk.rx.bytes = 0x01 :: 0x05 :: []) ∧
    ((short_ awake).clk.rx.inFrame = true ∧ (short_ awake).clk.rx.bytes.length < 2) ∧ awake.clk.rx.inFrame = false := by
  refine ⟨⟨⟨rfl, rfl, rfl, rfl, rfl, rfl⟩, by simp, other_byte _⟩, ?_⟩
  unfold Settled
  decide +kernel

theorem witness_LinkTransmits_meanwhile :
    let s := waiting (.forming 0x05 1) [] none;
    s.sys.live = true ∧ s.clk.deaf = false ∧ s.clk.rx.inFrame = false ∧ s.clk.reply ≠ .none ∧
      encodeRequest (.ident 2) = some (0x01, 2, []) ∧ s.clk.mark = none ∧
      ({ s with clk := { s.clk with mark := some (0x01, 1) } } : State).clk.mark ≠ none := by
  decide +kernel

theorem witness_LinkTransmits :
    let done : Reply := ⟨0x41, 1, .done, false, []⟩;
    let late : Reply := ⟨0x41, 1, .overrun, false, []⟩;
    let s := waiting (.formed done) [] (some ⟨[], false⟩);
    (s.sys.live = true ∧ Settled s ∧ s.clk.tx = some ⟨[], false⟩) ∧
    (s.clk.reply = .formed done ∧ isResetReply done = false ∧ done.status ≠ .overrun) ∧
    ((waiting (.formed late) [] none).clk.reply = .formed late ∧ late.status = .overrun) ∧
    ((waiting .none [.supply true false] none).clk.reply = .none ∧
      (waiting .none [.supply true false] none).clk.notices = .supply true false :: []) ∧
    (awake.clk.reply = .none ∧ awake.clk.notices = []) := by
  unfold Settled; decide +kernel

theorem witness_LinkResets :
    Ready awake ∧
    let s := waiting .none [] (some ⟨[], true⟩);
    s.sys.live = true ∧ s.clk.tx = some ⟨[], true⟩ ∧ s.sys.resetWait = none ∧ s.flt.list = [] ∧ s.xlm.sets = [] ∧ s.spm.ops = [] := by
  unfold Ready Settled; decide +kernel

/-- The reply of RESET ends with a set held, and with a snapshot under way. -/
theorem witness_LinkResets_held :
    ∀ ops ∈ [[], [(⟨.snapshot .power 0 1 0, [(0, List.replicate 16 0xA5)]⟩ : RowOp)]],
    let s := writing ops (grouped (waiting .none [] (some ⟨[], true⟩)));
    s.sys.live = true ∧ s.clk.tx = some ⟨[], true⟩ ∧ s.sys.resetWait = none ∧ s.xlm.sets ≠ [] ∧
      (s.spm.ops = [] ∨ writingSnapshot s.spm = true) ∧ (ops = [] ↔ writingSnapshot s.spm = false) := by
  decide +kernel

theorem witness_LinkResets_break :
    (awake.sys.live = true ∧ Settled awake ∧ awake.sys.resetWait = none ∧ awake.clk.breakArmed = false) ∧
    ((breakable awake).sys.live = true ∧ Settled (breakable awake) ∧ (breakable awake).sys.resetWait = none ∧
      (breakable awake).clk.breakArmed = true ∧ (breakable awake).flt.list = [] ∧ (breakable awake).xlm.sets = [] ∧
      (breakable awake).spm.ops = []) ∧
    ((breakable (grouped awake)).clk.breakArmed = true ∧ (breakable (grouped awake)).xlm.sets ≠ [] ∧
      (breakable (grouped awake)).spm.ops = []) := by
  unfold Settled; decide +kernel

theorem witness_LinesSetEnables :
    Ready awake ∧ (0x1BF < 1024 ∧ Nat.testBit 0x1BF 6 = false ∧ Nat.testBit 0x1BF 9 = false) ∧ 1023 < 1024 ∧ 2 < 3 ∧ 1024 ≤ 1024 ∧
      Nat.testBit 0x040 6 = true ∧ Nat.testBit 0x200 9 = true := by
  unfold Ready Settled; decide +kernel

theorem witness_ParametersClamped :
    (Ready awake ∧ awake.rcv.path = .config) ∧ (2000 < (7 : Byte).toNat * 256 + (0xD1 : Byte).toNat) ∧
      ((7 : Byte).toNat * 256 + (0xD0 : Byte).toNat ≤ 2000) ∧
      Ready (at_ .running (map none)) ∧ (at_ .running (map none)).pms.params =
        some ⟨(0 : Byte).toNat * 256 + (100 : Byte).toNat, min (max (50 : Byte).toNat 20) 80,
          min (max (75 : Byte).toNat (min (max (50 : Byte).toNat 20) 80 + 10)) 95⟩ := by
  unfold Ready Settled; decide +kernel

theorem reset_sized : MapStore.reset.Sized := by constructor <;> rfl

/-- The last place of a table that defines nothing else. -/
theorem last_clashes {α : Type} (clash : α → α → Prop) (n j : Nat) (e : α) : ¬Clashes clash (List.replicate n none ++ [some e]) j := by
  rintro ⟨a, b, k, hk, ha, hb, -⟩
  have last : ∀ (i : Nat) (x : α), entryAt (List.replicate n none ++ [some e]) i = some x → i = n := by
    intro i x h
    rcases Nat.lt_trichotomy i n with hi | hi | hi
    · simp [entryAt, List.getElem?_append, hi] at h
    · exact hi
    · simp [entryAt, List.getElem?_append, show ¬i < n by omega, show i - n ≠ 0 by omega] at h
  exact hk ((last k b hb).trans (last j a ha).symm)

def topNode : NodeEntry := ⟨.remote, 11, none, none, none, none, some 3, some 7⟩
def topGate : GateEntry := ⟨31, 47, 46, 200, 500, 5, 5⟩

theorem witness_MapPutReplacesEntries :
    (Ready awake ∧ awake.rcv.path = .config ∧ awake.sfe.nodes.length = 32 ∧ awake.clm.areas.length = 12 ∧
      awake.zdu.zones.length = 8 ∧ awake.zdu.gates.length = 6 ∧ 31 + [topNode].length ≤ 32 ∧ 5 + [topGate].length ≤ 6) ∧
    awake.pms.Sized ∧
    (topNode.Valid ∧ ∀ j, ¬Clashes NodeEntry.Clash (overwritten 31 ([topNode].map some) awake.pms.nodes) j) ∧
    SegEntry.Valid ⟨31, 0, 20000, 7, 11, .remote, 500, 500, 255, true, true, some 15⟩ ∧ RouteEntry.Valid ⟨List.replicate 20 47, true⟩ ∧
    AreaEntry.Valid ⟨.station 3 3, 15⟩ ∧ ZoneEntry.Valid ⟨1500, 1500, 3000, 2000, 500⟩ ∧
    (topGate.Valid ∧ ∀ j, ¬Clashes GateEntry.Clash (overwritten 5 ([topGate].map some) awake.pms.gates) j) ∧
    MediaEntry.Valid ⟨20000, 100, 2000, 200, true⟩ := by
  refine ⟨by unfold Ready Settled; decide +kernel, reset_sized, ⟨?_, fun j => last_clashes _ 31 j _⟩, ?_, ?_, ?_, ?_, ⟨?_, fun j => last_clashes _ 5 j _⟩, ?_⟩
  all_goals first
    | decide
    | (constructor <;> simp [topNode, topGate])

/-- Two entries that name one input line, and one whose every byte is 0xFF. -/
theorem witness_MapPutRefused :
    (Ready awake ∧ awake.rcv.path = .config ∧ Ready (at_ .armed (map none)) ∧ (at_ .armed (map none)).rcv.path ≠ .config ∧ 7 < 8 ∧
      [1, 32, 48, 16, 12, 8, 6, 16][2]? = some 48 ∧ 0 < 1 ∧ 48 < 48 + 1 ∧ 48 < 47 + 2 ∧ 31 + (0 + 1 + 0) ≤ 32 ∧
      awake.sfe.nodes.length = 32 ∧ awake.clm.areas.length = 12 ∧ awake.zdu.zones.length = 8 ∧ awake.zdu.gates.length = 6) ∧
    ((∀ e : NodeEntry, e.Valid → encodeNode e ≠ List.replicate 9 0xFF) ∧ (∀ e : SegEntry, e.Valid → encodeSeg e ≠ List.replicate 15 0xFF) ∧
      (∀ e : RouteEntry, e.Valid → encodeRoute e ≠ List.replicate 22 0xFF) ∧
      (∀ e : AreaEntry, e.Valid → encodeArea e ≠ List.replicate 4 0xFF) ∧
      (∀ e : ZoneEntry, e.Valid → encodeZone e ≠ List.replicate 10 0xFF) ∧
      (∀ e : GateEntry, e.Valid → encodeGate e ≠ List.replicate 8 0xFF) ∧
      ∀ e : MediaEntry, e.Valid → encodeMedia e ≠ List.replicate 7 0xFF) ∧
    (let t := overwritten 30 ([sensor 23, sensor 23].map some) awake.pms.nodes;
      (sensor 23).Valid ∧ 30 + [sensor 23, sensor 23].length ≤ 32 ∧ Clashes NodeEntry.Clash t 30 ∧ ∀ k, 30 ≤ k → k < 30 → ¬Clashes NodeEntry.Clash t k) ∧
    (let t := overwritten 4 ([topGate, topGate].map some) awake.pms.gates;
      topGate.Valid ∧ 4 + [topGate, topGate].length ≤ 6 ∧ Clashes GateEntry.Clash t 4 ∧ ∀ k, 4 ≤ k → k < 4 → ¬Clashes GateEntry.Clash t k) := by
  have byte (x : Nat) (h : x < 255) : BitVec.ofNat 8 x ≠ 0xFF := by
    intro e
    have := congrArg BitVec.toNat e
    simp at this
    omega
  refine ⟨by unfold Ready Settled; decide +kernel, ⟨?_, ?_, ?_, ?_, ?_, ?_, ?_⟩, ⟨?_, by decide, ?_, by omega⟩, ⟨?_, by decide, ?_, by omega⟩⟩
  · intro e _ h
    cases hk : e.kind <;> simp [encodeNode, u8, hk, NodeKind.code, List.replicate] at h
  · intro e v h
    simp [encodeSeg, u8, List.replicate] at h
    exact byte _ (by have := v.ends.1; omega) h.1
  · intro e v h
    simp [encodeRoute, u8, List.replicate] at h
    exact byte _ (by have := v.count.2; omega) h.1
  · intro e _ h
    cases hs : e.source <;> simp [encodeArea, encodeSource, hs, List.replicate] at h
  · intro e v h
    have := v.vmax
    simp [encodeZone, u16, List.replicate] at h
    exact byte _ (by omega) h.1
  · intro e v h
    simp [encodeGate, u8, List.replicate] at h
    exact byte _ (by have := v.node; omega) h.1
  · intro e v h
    have := v.length
    simp [encodeMedia, u16, List.replicate] at h
    exact byte _ (by omega) h.1
  · constructor <;> simp [sensor]
  · exact ⟨sensor 23, sensor 23, 31, by decide, by decide +kernel, by decide +kernel, rfl, .inl ⟨rfl, rfl⟩⟩
  · constructor <;> simp [topGate]
  · exact ⟨topGate, topGate, 5, by decide, by decide +kernel, by decide +kernel, .inl rfl⟩

theorem witness_MapGetReads :
    Ready awake ∧ (0 < 1 ∧ 31 < 32 ∧ 47 < 48 ∧ 15 < 16 ∧ 11 < 12 ∧ 7 < 8 ∧ 5 < 6 ∧ 0 < 255) ∧ 7 < 8 ∧
      [1, 32, 48, 16, 12, 8, 6, 16][7]? = some 16 ∧ 16 ≤ 16 := by
  unfold Ready Settled; decide +kernel

theorem witness_ArmRefusedOrTests :
    (Ready (at_ .armed (map none)) ∧ (at_ .armed (map none)).rcv.path ≠ .config) ∧
    (Ready (marked true true awake) ∧ (marked true true awake).rcv.path = .config ∧ (marked true true awake).spm.pendingMark = true) ∧
    (Ready awake ∧ awake.rcv.path = .config ∧ awake.spm.pendingMark = false ∧
      ∃ pre c post, armTable awake.pms = pre ++ c :: post ∧ (∀ x ∈ pre, x.holds) ∧ ¬c.holds) ∧
    (Ready (at_ .config gateMap) ∧ (at_ .config gateMap).rcv.path = .config ∧ (at_ .config gateMap).spm.pendingMark = false ∧
      (∀ c ∈ armTable gateMap, c.holds) ∧ definedEntries gateMap.gates = (0, gateEntry) :: [] ∧
      0 < (at_ .config gateMap).zdu.gates.length) := by
  have first : ∀ c, armTable c = ⟨0, 0, 1, c.params ≠ none⟩ :: (armTable c).tail := fun _ => rfl
  refine ⟨by unfold Ready Settled; decide +kernel, by unfold Ready Settled; decide +kernel,
    ⟨by unfold Ready Settled; decide +kernel, by decide, by decide, [], _, _, first _, by simp, fun h => h rfl⟩,
    by unfold Ready Settled; decide +kernel, by decide +kernel, by decide +kernel, armTable_holds (by decide +kernel), by decide +kernel⟩

theorem witness_ArmDecides :
    let s := at_ .config (map none);
    Ready s ∧ s.rcv.path = .config ∧ s.spm.pendingMark = false ∧ (∀ c ∈ armTable s.pms, c.holds) ∧
      s.pms.params = some ⟨100, 50, 75⟩ ∧ definedEntries s.pms.gates = [] ∧ s.flt.list = [] ∧ s.sfe.nodes.length = 32 ∧
      s.pms.nodes.length = 32 := by
  unfold Ready Settled
  exact ⟨by decide +kernel, by decide +kernel, by decide +kernel, armTable_holds (by decide +kernel), by decide +kernel,
    by decide +kernel, by decide +kernel, by decide +kernel, by decide +kernel⟩

theorem witness_ArmDecides_clearing :
    let s := setNode 2 ⟨some 100, none, .unset, 0, .ok⟩ (at_ .config (map none));
    let o : State := { at_ .config (map none) with sfe := { (at_ .config (map none)).sfe with covers := [true] ++ List.replicate 7 false } };
    (sensorNodes s.pms = [(1, sensor 0)] ++ (2, sensor 1) :: [(3, sensor 2)] ∧ (nodeAt (after (.arm 0) s) 1).level ≠ .covered ∧
      (nodeAt (after (.arm 0) s) 2).level = .covered ∧ (after (.arm 0) s).rcv.path ≠ .armed) ∧
    ((∀ x ∈ sensorNodes o.pms, (nodeAt (after (.arm 0) o) x.1).level ≠ .covered) ∧ coverOf o 0 = some true ∧
      (after (.arm 0) o).rcv.path ≠ .armed) := by
  decide +kernel

theorem witness_DisarmReturns :
    (Ready (at_ .armed (map none)) ∧ (at_ .armed (map none)).rcv.path = .armed) ∧
    (Ready (at_ .resumable (map none)) ∧ (at_ .resumable (map none)).rcv.path = .resumable ∧ (at_ .resumable (map none)).flt.list = []) ∧
    (Ready (carrying .resumable [sheet] 0) ∧ (carrying .resumable [sheet] 0).rcv.path ≠ .armed ∧
      ¬((carrying .resumable [sheet] 0).rcv.path = .resumable ∧ (carrying .resumable [sheet] 0).flt.list = [])) := by
  unfold Ready Settled; decide +kernel

theorem witness_CalibrationMeasures_start :
    (Ready awake ∧ awake.rcv.path = .config ∧ sensorNodes awake.pms = []) ∧
    (Ready (at_ .clearing (map none)) ∧ (at_ .clearing (map none)).rcv.path = .clearing ∧
      allCoversClosed (at_ .clearing (map none)) = true ∧ sensorNodes (map none) ≠ []) ∧
    (Ready (at_ .armed (map none)) ∧ ¬((at_ .armed (map none)).rcv.path = .config ∨ ((at_ .armed (map none)).rcv.path = .clearing ∧
      allCoversClosed (at_ .armed (map none)) = true))) := by
  unfold Ready Settled; decide +kernel

theorem witness_CalibrationMeasures :
    let s := sampling (at_ .config (map none));
    s.sys.live = true ∧ Settled s ∧ awake.sfe.calib = none ∧
      s.sfe.calib = some ⟨5, List.replicate 24 16, List.replicate 24 12800, 4⟩ ∧ s.pms.params = some ⟨100, 50, 75⟩ ∧
      moving s = false ∧ s.sfe.nodes.length = 32 ∧ s.pms.nodes.length = 32 := by
  unfold Settled; decide +kernel

/-- A calibration whose line 1 brought 15 samples, its pin then at a clear level or at a covered one. -/
def brought15 (y : Nat) : State :=
  let s := at_ .config (map none)
  { setCalib (some ⟨5, (List.replicate 24 16).set 1 15, (List.replicate 24 12800).set 1 12000, 4⟩) s with
    pins := { s.pins with sensors := s.pins.sensors.set 1 y } }

theorem witness_CalibrationMeasures_short : ∀ y ∈ [0, 800],
    let s := brought15 y;
    s.sys.live = true ∧ Settled s ∧ s.sfe.calib.isSome = true ∧ s.pms.params = some ⟨100, 50, 75⟩ ∧ moving s = false ∧
      s.sfe.nodes.length = 32 ∧ s.pms.nodes.length = 32 ∧ s.pms.node? 2 = some (sensor 1) := by
  unfold Settled; decide +kernel

/-- R20, R24: the pin's level that stands for the sixteenth sample is the latest one, from which the level is set. -/
theorem test_calibrate_latest :
    let n (y : Nat) : NodeState := nodeAt (after .calibrateEnd (brought15 y)) 2
    n 800 = ⟨some 800, some 800, .clear, 0, .ok⟩ ∧ n 0 = ⟨some 0, some 750, .covered, 0, .ok⟩ := by
  decide +kernel

theorem witness_HostDrives :
    (Ready (carrying .running [sheet] 0) ∧ (carrying .running [sheet] 0).rcv.path = .running ∧
      (map none).zone? 0 = some ⟨600, 300, 700, 100, 100⟩ ∧ 1 ≤ 1 ∧ 0 < (carrying .running [sheet] 0).zdu.zones.length) ∧
    ((map none).zone? 1 = none ∧ 1 < 2) ∧
    (let s := at_ .halting (map none);
      Ready s ∧ ¬(s.rcv.path = .config ∨ s.rcv.path = .armed ∨ s.rcv.path = .running)) := by
  unfold Ready Settled; decide +kernel

theorem witness_HostDrives_gate :
    (Ready (at_ .config gateMap) ∧ (at_ .config gateMap).rcv.path = .config ∧ gateMap.gate? 0 = some gateEntry ∧
      0 < (at_ .config gateMap).zdu.gates.length) ∧
    (gateMap.gate? 1 = none ∧ 2 < 3) ∧ (Ready (at_ .armed gateMap) ∧ (at_ .armed gateMap).rcv.path ≠ .config) := by
  unfold Ready Settled; decide +kernel

theorem witness_SheetSAdmits :
    let s := carrying .running [sheet] 0;
    (Ready s ∧ s.rcv.path = .running ∧ s.flt.list.length < 24 ∧ s.pms.route? 0 = some ⟨[0, 1, 2, 3], false⟩ ∧
      routeAvailable s [0, 1, 2, 3] = true ∧ s.pms.media? 0 = some paper ∧
      (duplexRoute s.pms 0 = true → paper.duplex = true ∧ 7 ≠ 65535) ∧
      (∀ r ∈ s.flt.list, streamOf s.pms r = (4, routeDest s.pms 0) → r.ordinal < 21) ∧ FirstFree s 2 ∧
      stationOfNode s.pms feed.dst = none ∧ ∀ x ∈ definedEntries s.pms.gates, x.2.node ≠ feed.dst) ∧ FeedsFirst s 0 feed := by
  exact ⟨by unfold Ready Settled FirstFree; exact ⟨by decide +kernel, by decide +kernel, by decide +kernel, by decide +kernel, by decide +kernel,
    by decide +kernel, by decide +kernel, by decide +kernel, ⟨0, by decide +kernel⟩, by decide +kernel, by decide +kernel⟩,
    by constructor <;> decide +kernel⟩

/-- The counter passes over 65535 and 1, which sheets hold. -/
theorem witness_SheetSAdmits_number :
    FirstFree { carrying .running [] 0 with flt := ⟨[sheet, { sheet with sheet := 65535 }], 65535⟩ } 2 :=
  ⟨2, by decide +kernel⟩

/-- A path whose first step ends at bin 5 of station 1, and that station with hand-offs waiting. -/
def nearStation (p : PathState) (sets : List SetEntry) (hs : List HandOff) : State :=
  setSets sets (setStation 1 { online with handOffs := hs } (at_ p { map none with
    nodes := (map none).nodes.set 1 (some { dest (some 1) with localNo := some 5 })
    routes := some ⟨[0], false⟩ :: List.replicate 15 none }))

theorem witness_SheetSAdmits_station : ∀ hs ∈ [[], List.replicate 4 (⟨9, none, some 5⟩ : HandOff)],
    let s := nearStation .armed [] hs;
    (Ready s ∧ s.rcv.path = .armed ∧ s.pms.route? 0 = some ⟨[0], false⟩ ∧ routeAvailable s [0] = true ∧
      duplexRoute s.pms 0 = false ∧ stationOfNode s.pms feed.dst = some 1 ∧ stationOfNode s.pms (routeDest s.pms 0) = some 1 ∧
      (∀ x ∈ definedEntries s.pms.gates, x.2.node ≠ feed.dst) ∧ s.xlm.stations.length = 3 ∧ (stationAt s 1).link = .online ∧ Room 2 s ∧
      ((stationAt s 1).handOffs.length < 4 ↔ hs = []) ∧
      stationInUse { s with flt := ⟨[{ sheet with lead := ⟨1, 0, 0⟩ }], 2⟩ } 1 = true) ∧ FeedsFirst s 0 feed := by
  intro hs h
  simp only [List.mem_cons, List.not_mem_nil, or_false] at h
  rcases h with rfl | rfl <;> exact ⟨by unfold Ready Settled Room; decide +kernel, by constructor <;> decide +kernel⟩

/-- A first sheet toward a gate at node 1, its reading at 1 where position 0 is wanted, inside and outside its guard distance. -/
def ahead (len : Nat) (pos : Bool) : State :=
  let s := at_ .armed (feedMap len)
  { s with sfe := { s.sfe with feedback := s.sfe.feedback.set 0 pos } }

theorem witness_SheetSAdmits_gate : ∀ x ∈ [(151, true), (150, false), (150, true)],
    let s := ahead x.1 x.2;
    let g : SegEntry := { feed with len := x.1 };
    (Ready s ∧ s.rcv.path = .armed ∧ s.flt.list.length < 24 ∧ s.pms.route? 0 = some ⟨[0, 1, 2, 3], false⟩ ∧
      routeAvailable s [0, 1, 2, 3] = true ∧ s.pms.media? 0 = some paper ∧ duplexRoute s.pms 0 = false ∧ Room 1 s ∧
      numberTaken s s.flt.counter = false ∧ stationOfNode s.pms g.dst = none ∧
      (x = (150, true) ↔ g.len ≤ feedGate.guard ∧ (servedGate s 0 s.flt.counter feedGate false).status ≠ .confirmed)) ∧
    FeedsFirst s 0 g ∧ GateAhead s 0 g 0 feedGate false := by
  intro x hx
  simp only [List.mem_cons, List.not_mem_nil, or_false] at hx
  rcases hx with rfl | rfl | rfl <;>
    exact ⟨by unfold Ready Settled Room; decide +kernel, by constructor <;> decide +kernel, by constructor <;> decide +kernel⟩

/-- An ARMED path to station 1, ONLINE, with sets of job 4. -/
def toSets (sets : List SetEntry) : State := setSets sets (setStation 1 online (at_ .armed (map (some 1))))

theorem fields_agree (length : Nat) (sets : List SetEntry) (setNo : Option Nat) (flags : Nat)
    (hl : length = 500 ∨ length = 20000) (hs : sets = [] ∧ (setNo = none ∧ flags = 4 ∨ setNo = some 9 ∧ flags = 3) ∨
      sets = [group] ∧ setNo = some 9 ∧ flags = 1) :
    FieldsAgree (toSets sets) 4 0 255 length flags none setNo paper := by
  rcases hl with rfl | rfl <;> rcases hs with ⟨rfl, ⟨rfl, rfl⟩ | ⟨rfl, rfl⟩⟩ | ⟨rfl, rfl, rfl⟩ <;>
    refine ⟨by decide +kernel, by decide, by decide +kernel, by decide +kernel, by decide, by decide, ?_, by decide +kernel⟩ <;>
    (intro k hk; cases hk) <;> refine ⟨by decide, by decide +kernel, ?_⟩ <;> intro x hx
  all_goals first
    | (rw [show findSet (toSets []) 4 9 = none by decide +kernel] at hx; cases hx)
    | (rw [show findSet (toSets [group]) 4 9 = some group by decide +kernel] at hx; cases hx; decide +kernel)

/-- The counter's own number, which nothing holds. -/
theorem first_free (s : State) (h : numberTaken s s.flt.counter = false) : FirstFree s s.flt.counter := ⟨0, by decide, rfl, h, nofun⟩

theorem witness_SheetFAdmits : ∀ sets ∈ [[], [group]],
    let s := toSets sets;
    (Ready s ∧ s.rcv.path = .armed ∧ s.flt.list.length < 24 ∧ s.pms.route? 0 = some ⟨[0, 1, 2, 3], false⟩ ∧
      routeAvailable s [0, 1, 2, 3] = true ∧ (∀ r ∈ s.flt.list, streamOf s.pms r = (4, routeDest s.pms 0) → r.ordinal < 1) ∧
      s.xlm.sets.length < 8 ∧ findSet s 4 9 = sets.head? ∧ stationOfNode s.pms feed.dst = none ∧
      ∀ x ∈ definedEntries s.pms.gates, x.2.node ≠ feed.dst) ∧ FirstFree s 1 ∧ FeedsFirst s 0 feed := by
  intro sets h
  simp only [List.mem_cons, List.not_mem_nil, or_false] at h
  rcases h with rfl | rfl <;>
    exact ⟨by unfold Ready Settled; decide +kernel, first_free _ (by decide +kernel), by constructor <;> decide +kernel⟩

/-- A gate at the end of the first step: `witness_SheetSAdmits_gate` has the rest. -/
theorem witness_SheetFAdmits_gate : ∀ x ∈ [(151, true), (150, false), (150, true)],
    FieldsAgree (ahead x.1 x.2) 4 0 255 500 0 none none paper ∧ FirstFree (ahead x.1 x.2) 1 := by
  intro x hx
  simp only [List.mem_cons, List.not_mem_nil, or_false] at hx
  rcases hx with rfl | rfl | rfl <;>
    exact ⟨⟨by decide +kernel, by decide, by decide +kernel, by decide +kernel, by decide, by decide, fun k hk => (nomatch hk),
      by decide +kernel⟩, first_free _ (by decide +kernel)⟩

/-- A member of a set whose first step ends at its station: `witness_SheetSAdmits_station` has the rest. -/
theorem witness_SheetFAdmits_station : ∀ hs ∈ [[], List.replicate 4 (⟨9, none, some 5⟩ : HandOff)],
    let s := nearStation .armed [{ group with dest := 1 }] hs;
    FieldsAgree s 4 0 255 500 1 none (some 9) paper ∧ findSet s 4 9 = some { group with dest := 1 } ∧ FirstFree s 1 ∧
      ((stationAt s 1).handOffs.length < 4 ↔ hs = []) := by
  intro hs h
  simp only [List.mem_cons, List.not_mem_nil, or_false] at h
  rcases h with rfl | rfl <;>
    (refine ⟨⟨by decide +kernel, by decide, by decide +kernel, by decide +kernel, by decide, by decide, ?_, by decide +kernel⟩,
      by decide +kernel, first_free _ (by decide +kernel), by decide +kernel⟩
     rintro k ⟨⟩
     refine ⟨by decide, by decide +kernel, fun x hx => ?_⟩
     obtain rfl : { group with dest := 1 } = x := Option.some.inj hx
     decide +kernel)

theorem witness_SheetsRefused :
    (Ready awake ∧ ¬(awake.rcv.path = .armed ∨ awake.rcv.path = .running)) ∧
    (let s := carrying .running (List.replicate 24 sheet) 0;
      Ready s ∧ s.rcv.path = .running ∧ 24 ≤ s.flt.list.length) ∧
    (let s := carrying .running [sheet] 0;
      Ready s ∧ s.rcv.path = .running ∧ s.flt.list.length < 24 ∧ s.pms.route? 1 = none ∧
      (s.pms.route? 0 = some ⟨[0, 1, 2, 3], false⟩ ∧ routeAvailable s [0, 1, 2, 3] = true) ∧ s.pms.media? 1 = none ∧
      s.pms.media? 0 = some paper ∧ (duplexRoute s.pms 0 = true → paper.duplex = true ∧ 7 ≠ 65535) ∧
      ∃ r ∈ s.flt.list, streamOf s.pms r = (4, routeDest s.pms 0) ∧ 20 ≤ r.ordinal) := by
  unfold Ready Settled; decide +kernel

theorem witness_SheetsRefused_fields :
    (∀ e, ¬FieldsAgree (carrying .running [sheet] 0) 4 0 255 500 8 none none e) ∧
    FieldsAgree (carrying .running [sheet] 0) 4 0 255 500 0 none none paper ∧
    (let s := toSets (List.replicate 8 { group with number := 10 });
      Ready s ∧ s.rcv.path = .armed ∧ findSet s 4 9 = none ∧ 8 ≤ s.xlm.sets.length ∧ s.flt.list = [] ∧
        FieldsAgree s 4 0 255 20000 3 none (some 9) paper) := by
  refine ⟨fun e h => absurd h.known (by decide), ?_, ⟨?_, ?_, ?_, ?_, ?_, ?_⟩⟩
  · exact ⟨by decide +kernel, by decide, by decide +kernel, by decide +kernel, by decide, by decide, fun k hk => (nomatch hk), by decide +kernel⟩
  · unfold Ready Settled; decide +kernel
  · decide +kernel
  · decide +kernel
  · decide +kernel
  · decide +kernel
  · refine ⟨by decide +kernel, by decide, by decide +kernel, by decide +kernel, by decide, by decide, ?_, by decide +kernel⟩
    rintro k ⟨⟩
    refine ⟨by decide, by decide +kernel, fun x hx => ?_⟩
    rw [show findSet (toSets (List.replicate 8 { group with number := 10 })) 4 9 = none by decide +kernel] at hx
    cases hx

theorem witness_ResumeStops :
    (Ready awake ∧ awake.rcv.path ≠ .resumable) ∧
    (let s := marked true false (at_ .resumable (map none));
      Ready s ∧ s.rcv.path = .resumable ∧ s.flt.list = [] ∧ ∀ p ∈ sensorNodes s.pms, unexplained s p.1 = false) := by
  unfold Ready Settled; decide +kernel

theorem witness_ResumeRearms :
    let s := carrying .resumable [{ sheet with disp := some .retain, leadExp := none }] 0;
    Ready s ∧ s.rcv.path = .resumable ∧ s.flt.list ≠ [] ∧ ∀ p ∈ sensorNodes s.pms, unexplained s p.1 = false := by
  unfold Ready Settled; decide +kernel

theorem witness_ResumeRearms_windows :
    let s := carrying .resumable [{ sheet with disp := some .retain, leadExp := none }] 0;
    let f := onMap (farMap none) .resumable [{ sheet with lead := ⟨3, 0, 40000⟩ }] 0;
    (leadSeg s.pms sheet = some (path 1 2) ∧ (path 1 2).kind ≠ .reverse ∧ working s 2 = true ∧
      heldEntry s sheet = some ⟨1, 0, 0, 0, false⟩ ∧ s.pms.seg? 0 = some feed) ∧
    (leadSeg f.pms { sheet with lead := ⟨3, 0, 40000⟩ } = some (toStation 2 3) ∧ nodeKind f.pms 3 = some .remote) ∧
    (leadSeg (pocket mark) sheet = some intoPocket ∧ heldEntry s { sheet with arrivals := [] } = none) ∧
    (let r : Record := { sheet with lead := ⟨1, 0, 40000⟩ }; leadSeg s.pms r = some feed ∧ feed.kind = .feed ∧ working s 1 = true) := by
  decide +kernel

/-- A sheet with `o` µm of its step behind it before a gate that stands elsewhere, and the travel at which the stay of its body over
node 1 ends: 301000 µm. -/
def short (o : Int) : State :=
  setList [{ sheet with disp := some .retain, lead := ⟨3, 0, o⟩, leadExp := none, arrivals := [] }]
    (setGate 0 ⟨some true, .confirmed, 0, false, true, none⟩ { at_ .resumable gateMap with
      sfe := { (at_ .resumable gateMap).sfe with feedback := List.replicate 6 true } })
def stayed (run : Nat) : State :=
  let s := carrying .resumable [{ sheet with disp := some .retain, leadExp := none }] 0
  { s with rcv := { s.rcv with holdTravel := s.rcv.holdTravel.set 0 (BitVec.ofNat 32 run) } }

theorem witness_ResumeRearms_tied :
    (∀ o ∈ [44999, 45000, 45001], let s := short o;
      Ready s ∧ s.rcv.path = .resumable ∧ s.flt.list ≠ [] ∧ (∀ p ∈ sensorNodes s.pms, unexplained s p.1 = false) ∧
      definedEntries s.pms.gates = [(0, gateEntry)] ∧ 0 < s.zdu.gates.length ∧
      (served (unjoined s) gateEntry).bind (wants (unjoined s).pms gateEntry) = some false ∧ bodyOver (unjoined s) gateEntry = false ∧
      (gateAt s 0).cmd ≠ some false ∧ readingOf s gateEntry ≠ false ∧
      ((served (unjoined s) gateEntry).map fun r => decide (remaining (unjoined s).pms r ≤ (150 * 100 : Nat))) =
        some (decide (45000 ≤ o))) ∧
    ∀ x ∈ [301000, 301001], let s := stayed x;
      Ready s ∧ s.rcv.path = .resumable ∧ s.flt.list ≠ [] ∧ (∀ p ∈ sensorNodes s.pms, unexplained s p.1 = false) ∧
      definedEntries s.pms.gates = [] ∧ (s.flt.list.map (·.sheet)).Nodup ∧
      heldEntry s { sheet with disp := some .retain, leadExp := none } = some ⟨1, 0, 0, 0, false⟩ ∧ s.pms.seg? 0 = some feed := by
  unfold Ready Settled; decide +kernel

/-- R142, R143: at the bound of the stay window and of the guard, and beyond them. -/
theorem test_resume_tied :
    let p (s : State) : PathState × Option Cause := let t := after (.resume 0) s; (t.rcv.path, t.rcv.jam.first.map (·.cause))
    [short 44999, short 45000, stayed 312000, stayed 312001].map p =
      [(.running, none), (.halting, some .gate), (.running, none), (.halting, some .stay)] := by
  decide +kernel

/-- R9, R85, R142: a sheet held on its FEED step toward a working sensor is re-armed with a pick window, which no travel bounds. -/
theorem test_rearmed_pick :
    let r : Record := { sheet with disp := some .retain, lead := ⟨1, 0, 40000⟩, leadExp := none, arrivals := [] }
    (after (.resume 0) (carrying .resumable [r] 0)).flt.list.map (fun q => q.leadExp.map fun e => (e.kind, e.lo, e.hi)) =
      [some (.pick, 105000, 125000)] := by
  decide +kernel

theorem witness_ResumeStops_residual :
    let s := reading 2 100 .covered (at_ .resumable (map none));
    Ready s ∧ s.rcv.path = .resumable ∧ sensorNodes s.pms = [(1, sensor 0)] ++ (2, sensor 1) :: [(3, sensor 2)] ∧
      (∀ p ∈ [(1, sensor 0)], unexplained s p.1 = false) ∧ unexplained s 2 = true := by
  unfold Ready Settled; decide +kernel

theorem witness_AbandonClearsJob :
    (Ready awake ∧ awake.rcv.path ≠ .clearing ∧ awake.rcv.path ≠ .resumable) ∧
    (let s := grouped (carrying .resumable [{ sheet with disp := some .retain, leadExp := none }] 0);
      Ready s ∧ s.rcv.path = .resumable ∧ (s.xlm.sets.map (·.slot)).Nodup) := by
  unfold Ready Settled; decide +kernel

/-- Sheets of the job's set were handed off, the cancel queue of its station has room or is full, and the queue holds the job's entry. -/
theorem witness_AbandonClearsJob_cancels : ∀ n ∈ [0, 7, 8],
    let s : State := { at_ .clearing (map (some 1)) with
      rpq := { Rpq.reset with queue := [.overflow 4 9] }
      xlm := { Xlm.reset with
        sets := [{ group with handedOff := 1 }], stations := Xlm.reset.stations.set 0 { online with cancels := List.replicate n ⟨1, none⟩ } } };
    Ready s ∧ s.rcv.path = .clearing ∧ (s.xlm.sets.map (·.slot)).Nodup ∧ (∃ x ∈ s.rpq.queue, entryJob x = 4) ∧
      ((setCancels s.pms s.xlm.sets s.xlm.stations).2 = [] ↔ n < 8) := by
  unfold Ready Settled; decide +kernel

theorem witness_TakeReturnsEntries : Ready awake ∧ 1 ≤ 1 ∧ 6 ≤ 6 ∧ 6 < 7 := by unfold Ready Settled; decide +kernel

theorem witness_QueriesAnswer : Ready (carrying .running [sheet] 0) := by unfold Ready Settled; decide +kernel

theorem witness_QueriesAnswer_named :
    let s := carrying .running [sheet] 0;
    Ready s ∧ s.flt.list = [] ++ sheet :: [] ∧ sheet.sheet = 1 ∧ ∀ r ∈ s.flt.list, r.sheet ≠ 65535 := by
  unfold Ready Settled; decide +kernel

/-- R135's cases, by the queue and the abandoned jobs an offer of job 4, ordinal 20, set 9 meets. -/
theorem witness_SnapshotRequests_offer :
    let e : ReprintEntry := .sheet .removed 1 4 20 4 7 none (some (9, 1));
    let full (n : Nat) : List ReprintEntry := List.replicate n (.set 5 0 0 0);
    let covers (l : List ReprintEntry) : Bool := l.any fun x => match x with
      | .set j k a b => j == 4 && k == 9 && decide (a ≤ 20) && decide (20 ≤ b)
      | _ => false;
    let folds (l : List ReprintEntry) : Bool := l.any fun x => match x with
      | .overflow j _ => j == 4
      | _ => false;
    (entryJob e = 4 ∧ entryOrdinal e = 20) ∧ covers [.set 4 9 20 20] = true ∧ covers [.set 4 9 21 30, .set 4 9 10 19] = false ∧
      folds [.overflow 4 9] = true ∧ folds [.overflow 5 9] = false ∧
      ∀ n ∈ [62, 63, 64], (full n).length = n ∧ covers (full n) = false ∧ folds (full n) = false := by
  decide +kernel

theorem witness_SnapshotRequests :
    (Ready (at_ .armed (map none)) ∧ (at_ .armed (map none)).rcv.path ≠ .config) ∧
    (Ready awake ∧ awake.rcv.path = .config ∧ awake.spm.pendingMark = false) ∧
    (Ready (marked true true awake) ∧ (marked true true awake).rcv.path = .config ∧ (marked true true awake).spm.pendingMark = true) := by
  unfold Ready Settled; decide +kernel

theorem witness_SnapshotRequests_drop :
    let w := writing [⟨.snapshot .power 1 0 0, [(0, List.replicate 16 0xA5)]⟩] awake;
    (Ready (at_ .armed (map none)) ∧ (at_ .armed (map none)).rcv.path ≠ .config) ∧
    (Ready w ∧ w.rcv.path = .config ∧ writingSnapshot w.spm = true) ∧
    (Ready awake ∧ awake.rcv.path = .config ∧ writingSnapshot awake.spm = false ∧ awake.spm.marker = false) ∧
    (Ready (marked true true awake) ∧ (marked true true awake).spm.ops = [] ∧ (marked true true awake).spm.marker = true) := by
  unfold Ready Settled; decide +kernel

theorem witness_SamplesJudged :
    let s := at_ .config (map none);
    (Awake s ∧ s.sfe.calib = none ∧ nodeOfLine s.pms 3 = none) ∧
    (nodeOfLine s.pms 2 = some 3 ∧ 3 < s.sfe.nodes.length ∧ (nodeAt (reading 3 100 .unset s) 3).level = .unset) ∧
    ((nodeAt s 3).run = 0 ∧ (nodeAt s 3).baseline = some 800 ∧ s.pms.params = some ⟨100, 50, 75⟩ ∧ (nodeAt s 3).level = .clear ∧
      ¬(400 < 800 * 50 / 100 ∧ 399 < 800 * 50 / 100) ∧ (399 < 800 * 50 / 100 ∧ 0 < 800 * 50 / 100) ∧ s.rcv.path = .config) ∧
    ((nodeAt (reading 3 100 .covered s) 3).level = .covered ∧ ¬(800 * 75 / 100 < 600 ∧ 800 * 75 / 100 < 601) ∧
      (800 * 75 / 100 < 601 ∧ 800 * 75 / 100 < 1023) ∧ s.clm.list = []) ∧
    (Awake (at_ .armed (map none)) ∧ (at_ .armed (map none)).rcv.path = .armed ∧ Room 1 (at_ .armed (map none))) := by
  unfold Awake Settled Room; decide +kernel

theorem edge_at (s : State) (line x y n : Nat) (lead : Bool) (free : s.sfe.calib = none) (l : nodeOfLine s.pms line = some n)
    (room : n < s.sfe.nodes.length) (run : (nodeAt s n).run = 0) (lv : (nodeAt s n).level = if lead then .clear else .covered)
    (b : (nodeAt s n).baseline = some 800) (m : s.pms.params = some ⟨100, 50, 75⟩)
    (past : if lead then x < 400 ∧ y < 400 else 600 < x ∧ 600 < y) : Edge s line x y n lead :=
  ⟨free, l, room, run, lv, 800, _, b, m, past⟩

/-- The hypotheses of ArrivalJudged on the sheet whose window at node 2 runs from 58000 to 64000 µm, at a travel. -/
theorem witness_ArrivalJudged : ∀ t ∈ [57999, 58000, 64000, 64001],
    let s := carrying .running [sheet] t;
    let e : LeadExp := ⟨.travel, 2, 0, 0, 58000, 64000, 30, some 244, 0, none⟩;
    (Awake s ∧ s.rcv.path = .running ∧ nodeZone s.pms 2 = some 0 ∧ pocketEnd s 2 = false ∧ returnsWithin s 2 = none ∧
      expectedAt s 2 = some sheet ∧ findRec s sheet.sheet = some sheet ∧ sheet.leadExp = some e ∧ e.kind = .travel ∧ Room 1 s ∧
      travelDiff (travelOf s 0) e.ref = t) ∧
    Edge s 1 399 0 2 true := by
  intro t ht
  refine ⟨?_, edge_at _ 1 399 0 2 true ?_ ?_ ?_ ?_ ?_ ?_ ?_ ?_⟩ <;> revert t <;> (try unfold Awake Settled Room) <;> decide +kernel

theorem witness_ArrivalJudged_within :
    stepNo (pathOf (map none) sheet) sheet.lead.step = some 1 ∧ stepSeg (map none) sheet 3 = some (path 2 3) ∧
      (path 2 3).kind ≠ .reverse ∧ working (carrying .running [sheet] 58000) 3 = true ∧ definedEntries (map none).gates = [] ∧
      stationsNeeded (map none) (pathOf (map none) sheet) 1 = [] ∧ sheet.trailStep < sheet.lead.step ∧
      (heldEntry (carrying .running [sheet] 58000) sheet).isSome = true ∧
      (heldEntry (carrying .running [sheet] 64000) sheet).isSome = true := by
  decide +kernel

/-- An ANNOUNCED sheet in its pick window, which no travel bounds. -/
def picking : Record :=
  { sheet with
    progress := .announced, lead := ⟨1, 0, 0⟩, arrivals := []
    leadExp := some ⟨.pick, 1, 0, 0, 145000, 165000, 80, some 643, 0, none⟩ }

theorem witness_ArrivalJudged_pick : ∀ t ∈ [0, 145000, 165001],
    let s := carrying .running [picking] t;
    let e : LeadExp := ⟨.pick, 1, 0, 0, 145000, 165000, 80, some 643, 0, none⟩;
    (Awake s ∧ s.rcv.path = .running ∧ nodeZone s.pms 1 = some 0 ∧ pocketEnd s 1 = false ∧ returnsWithin s 1 = none ∧
      expectedAt s 1 = some picking ∧ findRec s picking.sheet = some picking ∧ picking.leadExp = some e ∧ e.kind = .pick ∧
      stepNo (pathOf s.pms picking) 1 = some 0 ∧ stepSeg s.pms picking 2 = some (path 1 2) ∧ working s 2 = true ∧
      picking.trailStep = picking.lead.step ∧ picking.arrivals = [] ∧ leadSeg s.pms picking = some feed ∧ (path 1 2).src = 1 ∧
      working s 1 = true) ∧
    Edge s 0 399 0 1 true := by
  intro t ht
  refine ⟨?_, edge_at _ 0 399 0 1 true ?_ ?_ ?_ ?_ ?_ ?_ ?_ ?_⟩ <;> revert t <;> (try unfold Awake Settled) <;> decide +kernel

/-- A sheet whose trail leaves node 1, a measure node or none, its lead on step `step`, with arrivals further on. -/
def leaving (step : Nat) (as : List Arrival) : Record :=
  { sheet with lead := ⟨step, 0, 0⟩, leadExp := none, trailExp := some ⟨1, 0, 0, 400000, 80, none⟩, arrivals := ⟨1, 0, 0, 0, false⟩ :: as }

/-- A second sheet on its way to node 1, at an offset. -/
def follower (o : Int) : Record :=
  { sheet with
    sheet := 2, ordinal := 22, lead := ⟨1, 0, o⟩, trailStep := 1, arrivals := [],
    leadExp := some ⟨.travel, 1, 0, 0, 0, 900000, 30, none, 0, none⟩ }

def trails (m : MapStore) (measure : Bool) (rs : List Record) (t : Nat) : State :=
  reading 1 100 .covered (onMap { m with nodes := m.nodes.set 1 (some { sensor 0 with measure := some measure }) } .running rs t)

/-- Leave travels at and beyond each bound, on a measure node and on another. -/
theorem witness_TrailJudged :
    (∀ t ∈ [294999, 295000, 299099, 299180, 377099, 377100, 400000, 400001], ∀ b ∈ [true, false],
      let s := trails (map none) b [leaving 2 []] t;
      (Awake s ∧ moving s = true ∧ nodeZone s.pms 1 = some 0 ∧ s.pms.params = some ⟨100, 50, 75⟩ ∧ definedEntries s.pms.gates = [] ∧
        s.clm.list = [] ∧ (s.flt.list.map (·.sheet)).Nodup ∧
        (s.flt.list.find? fun q => q.trailExp.any fun w => w.node == 1) = some (leaving 2 []) ∧ (leaving 2 []).progress = .moving ∧
        heldEntry s (leaving 2 []) = some ⟨1, 0, 0, 0, false⟩ ∧ s.rcv.path = .running ∧ Room 1 s ∧ travelDiff (travelOf s 0) 0 = t) ∧
      Edge s 0 601 1023 1 false) := by
  intro t ht b hb
  refine ⟨?_, ?_⟩
  · revert t b; unfold Awake Settled Room; decide +kernel
  · revert t b
    intro t ht b hb
    exact edge_at _ 0 601 1023 1 false rfl (by revert t b; decide +kernel) (by revert t b; decide +kernel) rfl rfl rfl rfl (by decide)

/-- The steps that the accepted edge takes: under a lead on the next step, onto a REVERSE one, to a next stay window that is kept and
one that is run over; and a follower within the min gap of 10000 µm, beyond its node, and at the gap. -/
theorem witness_TrailJudged_accepted :
    let a : Arrival := ⟨2, 0, 50, 1, false⟩;
    let s (t : Nat) : State := trails (map none) false [leaving 3 [a]] t;
    let run (t : Nat) : Int := travelDiff (travelOf (s t) 0) (stayOn (s t) (leaving 3 [a]) a (path 1 2)).ref;
    (stepSeg (s 0).pms (leaving 2 []) 1 = some feed ∧ stepSeg (s 0).pms (leaving 2 []) 2 = some (path 1 2) ∧
      leadSeg (s 0).pms (leaving 2 []) = some (path 1 2) ∧ working (s 0) 2 = true ∧ expectedAt (s 0) 1 = none) ∧
    (leadSeg (pocket mark) (leaving 2 []) = some intoPocket ∧ stepSeg (pocket mark) (leaving 2 []) 2 = some intoPocket) ∧
    (heldEntry (s 299099) { leaving 3 [a] with trailStep := 2, arrivals := [a] } = some a ∧ (s 0).pms.seg? 1 = some (path 1 2) ∧
      leadSeg (s 0).pms (leaving 3 [a]) = some (path 2 3) ∧ working (s 0) 3 = true ∧ run 299099 ≤ 301000 ∧ run 399999 > 301000 ∧
      (stayOn (s 0) (leaving 3 [a]) a (path 1 2)).hi = 301000) := by
  decide +kernel

theorem witness_TrailJudged_crowd :
    let f (o : Int) : State := trails (map none) false [leaving 2 [], follower o] 299099;
    let d (o : Int) : Int := max 0 (remainingSigned (f o).pms (follower o));
    (expectedAt (f 140001) 1 = some (follower 140001) ∧ d 140001 < 10000) ∧
    (expectedAt (f 151000) 1 = some (follower 151000) ∧ d 151000 < 10000) ∧
    (expectedAt (f 140000) 1 = some (follower 140000) ∧ 10000 ≤ d 140000) := by
  decide +kernel

/-- The next stay window run over in the run-out, with a follower within the min gap and without. -/
theorem witness_TrailJudged_twice : ∀ o ∈ [(140000 : Int), 140001],
    let a : Arrival := ⟨2, 0, 50, 1, false⟩;
    let r : Record := { leaving 3 [a] with disp := some .deliver };
    let s := setPath .runout (trails (map none) false [r, { follower o with disp := some .purge }] 399999);
    (Awake s ∧ moving s = true ∧ (s.flt.list.map (·.sheet)).Nodup ∧ s.clm.list = [] ∧ s.rcv.path = .runout ∧
      expectedAt s 1 = some { follower o with disp := some .purge } ∧ travelDiff (travelOf s 0) 50 > 301000 ∧
      max 0 (remainingSigned s.pms (follower o)) = 150000 - o ∧ heldEntry s { r with trailStep := 2, arrivals := [a] } = some a ∧ Room 1 s) ∧
    Edge s 0 601 1023 1 false := by
  intro o ho
  refine ⟨?_, edge_at _ 0 601 1023 1 false rfl ?_ ?_ rfl rfl rfl rfl (by decide)⟩
  all_goals revert o; (try unfold Awake Settled Room); decide +kernel

/-- A sheet at its window before the step to station 1, with a station whose queue holds hand-offs. -/
def handing (d : Option Nat) (r : Record) (n : Nat) (l : LinkState) : State :=
  setSets [group] (setStation 1 { online with link := l, handOffs := List.replicate n ⟨77, none, none⟩ } (onMap (farMap d) .running [r] 60000))

theorem witness_HandOffsMade : ∀ d ∈ [some 1, none], ∀ q ∈ [(3, LinkState.online), (4, .online), (4, .lost)],
    let r : Record := { sheet with setPart := if q.1 = 3 then some ⟨0, 9, 1, true, false⟩ else none };
    let s := handing d r q.1 q.2;
    let e : LeadExp := ⟨.travel, 2, 0, 0, 58000, 64000, 30, some 244, 0, none⟩;
    (Awake s ∧ definedEntries s.pms.gates = [] ∧ s.clm.list = [] ∧ (heldEntry s r).isSome = true ∧
      stepNo (pathOf s.pms r) r.lead.step = some 1 ∧ stepSeg s.pms r 3 = some (toStation 2 3) ∧
      nodeKind s.pms 3 = some .remote ∧ stationsNeeded s.pms ((pathOf s.pms r).take 2) 1 = [] ∧
      stationOfNode s.pms 3 = some 1 ∧ stationOfNode s.pms (routeDest s.pms r.route) = d ∧ s.xlm.stations.length = 3 ∧
      (stationAt s 1).handOffs.length = q.1 ∧ (stationAt s 1).link = q.2 ∧
      (s.xlm.sets.find? fun y => y.slot == 0 && y.job == r.job && y.number == 9) = some group ∧ stationInUse s 1 = true ∧ Room 2 s) ∧
    Arrives s 1 399 0 2 0 r e := by
  intro d hd q hq
  refine ⟨?_, ?_⟩
  · revert d q; unfold Awake Settled Room; decide +kernel
  · refine ⟨edge_at _ 1 399 0 2 true ?_ ?_ ?_ ?_ ?_ ?_ ?_ ?_, ?_, ?_, ?_, ?_, ?_, ?_, ?_, .inr (.inr ?_)⟩
    all_goals revert d q; decide +kernel

theorem witness_HealthTable : HealthTable healthAfter := by
  constructor <;> intros <;> simp only [healthAfter] <;> (try split) <;> (try simp_all) <;> (try omega)

/-- Nodes 1 and 2 DEGRADED, and their baselines, set by ARM and CALIBRATE or tracked from 439, at 800 and 440. -/
theorem witness_HealthTable_changes :
    let s := setNode 1 ⟨some 456, some 439, .clear, 0, .degraded⟩ (setNode 2 ⟨some 456, some 439, .clear, 0, .degraded⟩ (at_ .config (map none)));
    (∀ k b, k ∈ [Setting.arm, .calibrate, .tracking] → b ∈ [440, 800] →
      [1, 2].filterMap (fun n => sensorNotice s k n b (healthAfter (nodeAt s n).health k b)) =
        [.sensor 1 .degraded .ok b k, .sensor 2 .degraded .ok b k]) ∧
    Room 2 s ∧ Room 2 (sampling s) ∧ s.flt.list = [] ∧ (439 : Int) + ((456 : Int) - 439).tdiv 16 = 440 := by
  refine ⟨fun k b hk hb => ?_, by unfold Room; decide +kernel⟩
  simp only [List.mem_cons, List.not_mem_nil, or_false] at hk hb
  rcases hk with rfl | rfl | rfl <;> rcases hb with rfl | rfl <;> decide +kernel

theorem witness_BaselineTracked :
    let s := at_ .config (map none);
    Awake s ∧ s.sfe.nodes.length = 32 ∧ s.pms.nodes.length = 32 ∧ s.pms.node? 1 = some (sensor 0) ∧ (sensor 0).kind = .sensor ∧
      ((nodeAt s 1).health ≠ .failed ∧ (nodeAt s 1).level = .clear ∧ s.sfe.calib = none) ∧ (nodeAt s 1).baseline = some 800 ∧
      (nodeAt s 1).latest = some 900 ∧ s.flt.list = [] ∧ (nodeAt (reading 1 100 .covered s) 1).level ≠ .clear := by
  unfold Awake Settled; decide +kernel

theorem witness_CoversJudged :
    let c := at_ .config (map none);
    let l := clearing [0] .needed [];
    let opened (s : State) : State := { s with sfe := { s.sfe with covers := s.sfe.covers.set 0 true } };
    (Awake c ∧ c.sfe.covers[0]? ≠ some (!false)) ∧
    (c.sfe.covers[0]? = some (!true) ∧ areasOfCover c.pms (.line 1) = [] ∧ areasOfCover c.pms (.line 0) = [0] ∧
      c.rcv.path = .config ∧ c.sfe.calib = none ∧ (sampling c).sfe.calib = some ⟨5, List.replicate 24 16, List.replicate 24 12800, 4⟩) ∧
    (∀ p ∈ [PathState.armed, .running, .halting, .runout, .clearing, .resumable],
      let r := carrying p [{ sheet with disp := some .retain }] 0;
      Awake r ∧ r.sfe.covers[0]? = some (!true) ∧ r.rcv.path = p ∧ Room 1 r) ∧
    (let o := opened l;
      Awake o ∧ o.sfe.covers[0]? = some (!false) ∧ o.rcv.path = .clearing ∧ o.clm.list ≠ [] ∧ areasOfCover o.pms (.line 0) = [0] ∧
      0 ∈ o.clm.list ∧ (areaAt o 0).status = .needed ∧ 0 < o.clm.areas.length ∧ Room 1 o) ∧
    (let e := opened (clearing [] .done []);
      e.clm.list = [] ∧ e.rcv.path = .clearing ∧ allCoversClosed (at_ .clearing (map none)) = true ∧ Room 1 e ∧
      (let m : MapStore := { map none with areas := [some ⟨.line 0, 1⟩, some ⟨.line 1, 1⟩] ++ List.replicate 10 none };
        let u : State := { at_ .clearing m with sfe := { (at_ .clearing m).sfe with covers := [false, true] ++ List.replicate 6 false } };
        allCoversClosed u = false)) := by
  unfold Awake Settled Room; decide +kernel

theorem witness_FeedbackConfirms :
    let q : GateState := ⟨some true, .moving, 3, false, true, none⟩;
    let s := gated .config q;
    let under (p : PathState) : State := setList [{ sheet with lead := ⟨4, 0, 0⟩, leadExp := none }] (gated p q);
    let near (o : Int) : Record := { sheet with lead := ⟨3, 0, o⟩, leadExp := none };
    let nears (o : Int) : State := setList [near o] (gated .running ⟨some false, .confirmed, 3, false, false, some 1⟩);
    (Awake s ∧ s.sfe.feedback[0]? ≠ some (!false)) ∧
    (s.sfe.feedback[0]? = some (!true) ∧ s.zdu.armTest = none ∧
      (definedEntries s.pms.gates).filter (fun x => x.2.fbLine == 1) = [] ∧
      (definedEntries s.pms.gates).filter (fun x => x.2.fbLine == 0) = [(0, gateEntry)] ∧ 0 < s.zdu.gates.length ∧
      ¬(s.rcv.path = .running ∨ s.rcv.path = .runout)) ∧
    (∀ p ∈ [PathState.running, .runout], Awake (under p) ∧ (under p).sfe.feedback[0]? = some (!true) ∧ (under p).zdu.armTest = none ∧
      (under p).rcv.path = p ∧ bodyOver (under p) gateEntry = true ∧ Room 1 (under p)) ∧
    (∀ o ∈ [(44999 : Int), 45000], Awake (nears o) ∧ (nears o).rcv.path = .running ∧ bodyOver (nears o) gateEntry = false ∧
      ((gateAt (nears o) 0).status = .confirmed ∧ (gateAt (nears o) 0).cmd ≠ some true) ∧
      served (nears o) gateEntry = some (near o) ∧ max 0 (remainingSigned (nears o).pms (near o)) = 60000 - o ∧ Room 1 (nears o)) := by
  unfold Awake Settled Room; decide +kernel

/-- The gate test: the first of two gates confirms at 1, then at 0; the last confirms at 0. -/
theorem witness_FeedbackConfirms_test :
    let m : MapStore := { gateMap with gates := [some gateEntry, some { gateEntry with node := 1, outLine := 1, fbLine := 1 }] ++ List.replicate 4 none };
    let s (g : Nat) (pos : Bool) : State := setArmTest (some ⟨5, g, pos⟩) (setGate g ⟨some pos, .moving, 3, false, false, none⟩
      { at_ .config m with sfe := { (at_ .config m).sfe with feedback := List.replicate 6 (!pos) } });
    ∀ x ∈ [(0, true), (0, false), (1, false)], Awake (s x.1 x.2) ∧ (s x.1 x.2).sfe.feedback[x.1]? = some (!x.2) ∧
      (s x.1 x.2).zdu.armTest = some ⟨5, x.1, x.2⟩ ∧ (s x.1 x.2).rcv.path = .config ∧ (gateAt (s x.1 x.2) x.1).cmd = some x.2 ∧
      (gateAt (s x.1 x.2) x.1).status = .moving ∧ x.1 < (s x.1 x.2).zdu.gates.length ∧
      ((definedEntries (s x.1 x.2).pms.gates).filter fun y => x.1 < y.1).length = 1 - x.1 := by
  unfold Awake Settled; decide +kernel

theorem witness_SwitchTimeoutFails :
    let q (n : Nat) : GateState := ⟨some true, .moving, n, false, false, none⟩;
    let s := gated .config (q 25);
    (Awake s ∧ s.pms.gate? 1 = none ∧ gateEntry.switchTime = 25 ∧ (gateAt (gated .config (q 24)) 0).timer = 24) ∧
    (s.pms.gate? 0 = some gateEntry ∧ (gateAt s 0).status = .moving ∧ (gateAt s 0).expired = false ∧
      gateEntry.switchTime ≤ (gateAt s 0).timer ∧ 0 < s.zdu.gates.length ∧
      ¬(s.rcv.path = .running ∨ s.rcv.path = .runout) ∧ s.zdu.armTest = none) ∧
    (∀ p ∈ [PathState.running, .runout], (gated p (q 25)).rcv.path = p ∧ Room 1 (gated p (q 25))) ∧
    (setArmTest (some ⟨5, 0, true⟩) s).zdu.armTest = some ⟨5, 0, true⟩ := by
  unfold Awake Settled Room; decide +kernel

/-- The hypotheses of EncoderCounts on the sheet alone on its second step, at a travel. -/
def rolls (t : Nat) : Prop :=
  let r : Record := { sheet with trailStep := 2, arrivals := [] }
  let w : LeadExp := ⟨.travel, 2, 0, 0, 58000, 64000, 30, some 244, 0, none⟩
  let s := carrying .running [r] t
  Settled s ∧ 0 < s.zdu.zones.length ∧ s.sys.live = true ∧ s.pms.zone? 0 = some ⟨600, 300, 700, 100, 100⟩ ∧
    s.rcv.path = .running ∧ definedEntries s.pms.gates = [] ∧ s.flt.list = [r] ∧ r.progress = .moving ∧ r.depth = none ∧
    r.trailStep = r.lead.step ∧ r.trailExp = none ∧ leadSeg s.pms r = some (path 1 2) ∧ (path 1 2).zone = 0 ∧
    working s (path 1 2).dst = true ∧ r.leadExp = some w ∧ w.kind = .travel ∧ w.zone = 0 ∧ Room 1 s ∧
    travelDiff ((zoneAt s 0).travel + BitVec.ofNat 32 100) w.ref = t + 100

theorem witness_EncoderCounts : ∀ t ∈ [63900, 63901], rolls t := by
  unfold rolls Settled Room; dsimp only; decide +kernel

/-- The path with its third step in area 1. -/
def twoAreas : MapStore := { map none with segs := (map none).segs.set 2 (some { path 2 3 with area := 1 }) }
/-- A sheet in its window before node 2 or 3, with a disposition and a budget. -/
def inWindow (n : Nat) (d : Option Disp) (b : Nat) : Record :=
  { sheet with
    sheet := n - 1, ordinal := n, lead := ⟨n, 0, 0⟩, trailStep := n, arrivals := [], disp := d
    leadExp := some ⟨.travel, n, 0, 0, 58000, 64000, 30, some b, 0, none⟩ }
def pair (p : PathState) (d : Option Disp) (b t : Nat) : State :=
  onMap twoAreas p [inWindow 2 (if p = .runout then some .deliver else none) b, inWindow 3 d b] t

/-- Two sheets before and past their hi at one increment, in RUNNING and RUNOUT, both watched or the first alone. -/
theorem witness_EncoderCounts_two : ∀ x ∈ [(PathState.running, none), (.runout, some Disp.purge), (.runout, some .retain)],
    ∀ t ∈ [63900, 63901],
    let s := pair x.1 x.2 244 t;
    (s.rcv.path = .running ∨ s.rcv.path = .runout) ∧ definedEntries s.pms.gates = [] ∧ Settled s ∧ Room 1 s ∧
      (∃ r₁ r₂, s.flt.list = [r₁, r₂] ∧ r₁.sheet ≠ r₂.sheet ∧ leadSeg s.pms r₁ = some (path 1 2) ∧
        leadSeg s.pms r₂ = some { path 2 3 with area := 1 }) ∧
      working s 2 = true ∧ working s 3 = true ∧ travelDiff ((zoneAt s 0).travel + BitVec.ofNat 32 100) 0 = t + 100 := by
  intro x hx t ht
  refine ⟨?_, ?_, ?_, ?_, ⟨_, _, rfl, ?_, ?_, ?_⟩, ?_, ?_, ?_⟩ <;> revert x t <;> (try unfold Settled) <;> (try unfold Room) <;> decide +kernel

/-- R87, R93: of two sheets past hi at one increment of the run-out the first is the second failure, and the areas of the other join,
when it is watched; one JAM notice is posted. In RUNNING the other is not recorded. -/
theorem test_late_twice :
    let f (p : PathState) (d : Option Disp) : PathState × Option Nat × List Nat × Nat :=
      let t := after (.encoderEdge 0 true) (pair p d 244 63901)
      (t.rcv.path, (if p = .runout then t.rcv.jam.second else t.rcv.jam.first).bind (·.sheet), t.rcv.jam.areas, t.clk.notices.length);
    f .runout (some .purge) = (.halting, some 1, [0, 1], 1) ∧ f .runout (some .retain) = (.halting, some 1, [0], 1) ∧
      f .running none = (.halting, some 1, [0], 1) := by
  decide +kernel

/-- R87: a budget that comes to 0 in the millisecond of the second failure is handed too, a millisecond later nothing is; what falls
together with a GATE taken first is not raised (R45); and an arrival in HALTING is accepted without judgement. -/
theorem test_late_time_twice :
    let s := pair .runout (some .deliver) 0 1000;
    let halted := after (.lateTime 1) s;
    let areas (t : State) : List Nat := t.rcv.jam.areas;
    areas halted = [0] ∧ areas (after (.lateTime 2) halted) = [0, 1] ∧ areas (after (.lateTime 2) (tickClock halted)) = [0] ∧
      areas (after (.lateTime 2) (raiseJam (jam .gate none) [] s)) = [] ∧
      areas (after (.lateTime 2) (raiseJam (jam .stall none) [] s)) = [0, 1] ∧
      (let t := takeLead 3 0 50 halted;
       areas t = [0] ∧ t.flt.list.map (·.lead.step) = [2, 4]) := by
  decide +kernel

/-- A sheet on its third step, toward the gate at node 3: before, at and within its guard distance of 15000 µm. -/
theorem witness_EncoderCounts_gate : ∀ t ∈ [44899, 44900],
    let w : LeadExp := ⟨.travel, 3, 0, 0, 58000, 64000, 30, some 244, 0, none⟩;
    let r : Record := { sheet with lead := ⟨3, 0, 0⟩, trailStep := 3, arrivals := [], leadExp := some w };
    let s := onMap gateMap .running [r] t;
    s.rcv.path = .running ∧ s.flt.list = [r] ∧ r.progress = .moving ∧ leadSeg s.pms r = some (path 2 3) ∧ working s 3 = true ∧
      definedEntries s.pms.gates = [(0, gateEntry)] ∧ 0 < s.zdu.gates.length ∧ gateEntry.node = 3 ∧
      wants s.pms gateEntry r = some false ∧ (gateAt s 0).status ≠ .confirmed ∧ Room 1 s ∧
      max 0 ((60000 : Int) - travelDiff ((zoneAt s 0).travel + BitVec.ofNat 32 100) r.lead.ref) = 60000 - (t + 100) := by
  unfold Room; decide +kernel

/-- The path with a gate at node 2, a mark, of guard distance 0, and a sheet one increment short of it. -/
def markGate : MapStore :=
  { gateMap with
    nodes := gateMap.nodes.set 2 (some mark)
    gates := some { gateEntry with node := 2, seg0 := 2, seg1 := 4, guard := 0 } :: List.replicate 5 none }
def nearing : Record := { sheet with trailStep := 2, arrivals := [], leadExp := none }

theorem witness_EncoderCounts_mark : ∀ q ∈ [GateState.reset, ⟨some false, .confirmed, 3, false, false, some 1⟩],
    let e : GateEntry := { gateEntry with node := 2, seg0 := 2, seg1 := 4, guard := 0 };
    let s := setGate 0 q (onMap markGate .running [nearing] 59900);
    Settled s ∧ s.sys.live = true ∧ s.pms.zone? 0 = some ⟨600, 300, 700, 100, 100⟩ ∧ s.rcv.path = .running ∧
      s.flt.list = [nearing] ∧ leadSeg s.pms nearing = some (path 1 2) ∧ markLike s 2 = true ∧ nodeKind s.pms 2 ≠ some .transfer ∧
      stepSeg s.pms nearing 3 = some (path 2 3) ∧ working s 3 = true ∧ stationsNeeded s.pms (pathOf s.pms nearing) 1 = [] ∧
      definedEntries s.pms.gates = [(0, e)] ∧ 0 < s.zdu.gates.length ∧ wants s.pms e nearing = some false ∧
      (60000 : Int) ≤ travelDiff ((zoneAt s 0).travel + BitVec.ofNat 32 100) nearing.lead.ref ∧ 0 < lengthOf nearing * 100 ∧ Room 1 s ∧
      ((gateAt s 0).status = .confirmed ↔ q ≠ GateState.reset) := by
  unfold Settled Room; decide +kernel

/-- R45: with guard distance 0 the jam is raised where the lead stands at the node, and it names the distance 0. -/
theorem test_guard_mark :
    let c (t : Nat) : Option JamCause := (after (.encoderEdge 0 true) (onMap markGate .running [nearing] t)).rcv.jam.first
    c 59800 = none ∧ (c 59900).map (fun j => (j.cause, j.node, j.measured, j.bound)) = some (.gate, some 2, some 0, some 0) := by
  decide +kernel

theorem witness_EncoderCounts_still :
    Settled State.reset ∧ 7 < State.reset.zdu.zones.length ∧ State.reset.sys.live = false ∧
      moving (at_ .armed (map none)) = false := by
  unfold Settled; decide +kernel

/-- A short sheet on its second step, to the transfer at node 2. -/
def marking : Record :=
  { sheet with declared := 500, trailStep := 2, arrivals := [], leadExp := none, sideA := some .notStarted, sideB := some .notStarted }

/-- It before and at the end of its step of 60000 µm. -/
theorem witness_MarksCrossed : ∀ t ∈ [59899, 59900],
    let s := onMap transferMap .running [marking] t;
    (Awake s ∧ marking.progress = .moving ∧ marking.depth = none ∧ marking.arrivals = [] ∧ marking.trailExp = none ∧
      (path 1 2).kind ≠ .reverse ∧ marking.trailStep = marking.lead.step ∧ marking.leadExp = none ∧ markLike s 2 = true ∧
      marking.lead.step < (pathOf s.pms marking).length ∧ stepSeg s.pms marking 3 = some (path 2 3) ∧ working s 3 = true ∧
      stationsNeeded s.pms (pathOf s.pms marking) 1 = [] ∧ 0 < lengthOf marking * 100 ∧ 0 ≤ (windowOn s marking (path 2 3) 0).hi) ∧
    Carries s 0 ⟨600, 300, 700, 100, 100⟩ marking (path 1 2) := by
  intro t ht
  refine ⟨by revert t; unfold Awake Settled; decide +kernel, ?_⟩
  constructor <;> revert t <;> decide +kernel

/-- Its trail at the transfer, before and at a sheet length of 50000 µm past it. -/
theorem witness_MarksCrossed_trail : ∀ t ∈ [49899, 49900],
    let w : LeadExp := ⟨.travel, 3, 0, 0, 58000, 64000, 30, some 244, 0, none⟩;
    let r : Record := { marking with lead := ⟨3, 0, 0⟩, leadExp := some w, sideA := some .imaging };
    let s := onMap transferMap .running [r] t;
    (Awake s ∧ r.trailStep + 1 = r.lead.step ∧ heldEntry s r = none ∧ stepSeg s.pms r 2 = some (path 1 2) ∧ working s 3 = true ∧
      travelDiff (travelOf s 0 + 100) w.ref ≤ w.hi) ∧
    Carries s 0 ⟨600, 300, 700, 100, 100⟩ r (path 2 3) := by
  intro t ht
  refine ⟨by revert t; unfold Awake Settled; decide +kernel, ?_⟩
  constructor <;> revert t <;> decide +kernel

/-- A short sheet REVERSING in the pocket at a depth, which the travel gives. -/
def turning (d : Nat) (back : Nat) : Record :=
  { sheet with
    declared := 500, trailStep := 2, progress := .reversing, arrivals := [], leadExp := none,
    depth := some ⟨(d : Int) - back, BitVec.ofNat 32 back, false⟩ }

/-- At the depths on and beyond each bound: 64000 at an increment, 2000 at an edge, -4000 below; the return at depth 0 of a mark. -/
theorem witness_SwitchbackTurns : ∀ x ∈ [(63899, 0), (63900, 0), (63901, 0), (2000, 0), (2001, 0), (0, 4000), (0, 4001), (100, 0), (101, 0)],
    ∀ n ∈ [sensor 0, mark],
    let r := turning x.1 x.2;
    let s := onMap (pocket n) .running [r] x.1;
    (Awake s ∧ r.progress = .reversing ∧ r.leadExp = none ∧ r.trailExp = none ∧ r.depth.isSome = true ∧ intoPocket.kind = .reverse ∧
      intoPocket.src ≠ intoPocket.dst ∧ r.trailStep = r.lead.step ∧ 0 < lengthOf r ∧ stationsNeeded s.pms (pathOf s.pms r) 1 = [] ∧
      s.rcv.path = .running ∧ Room 1 s ∧ markLike s 1 = (n == mark) ∧ stepSeg s.pms r 3 = some (path 1 3) ∧ working s 3 = true ∧
      stepNo (pathOf s.pms r) 3 = some 2 ∧ s.pms.seg? 2 = some (path 1 3) ∧ working s 1 = (n == sensor 0) ∧
      (nodeZone s.pms 1).isSome = true ∧ (nodeZone s.pms 2).isSome = true) ∧
    Carries s 0 ⟨600, 300, 700, 100, 100⟩ r intoPocket ∧ Edge s 1 399 0 2 true ∧ (n = sensor 0 → Edge s 0 399 0 1 true) := by
  intro x hx n hn
  refine ⟨?_, ?_, ?_, ?_⟩
  · revert x n; unfold Awake Settled Room; decide +kernel
  · constructor <;> revert x n <;> decide +kernel
  · refine edge_at _ 1 399 0 2 true ?_ ?_ ?_ ?_ ?_ ?_ ?_ ?_ <;> revert x n <;> decide +kernel
  · rintro rfl
    refine edge_at _ 0 399 0 1 true ?_ ?_ ?_ ?_ ?_ ?_ ?_ ?_ <;> revert x <;> decide +kernel

/-- One whose return, at a mark, was refused at an earlier increment, at -4000 before the next one. -/
theorem witness_SwitchbackTurns_refused :
    let r : Record := { turning 0 4000 with depth := some ⟨-4000, 4000, true⟩ };
    let s := onMap (pocket mark) .running [r] 0;
    (Awake s ∧ r.progress = .reversing ∧ s.rcv.path = .running ∧ Room 1 s ∧ markLike s 1 = true ∧ r.trailStep = r.lead.step ∧
      stationsNeeded s.pms (pathOf s.pms r) 1 = []) ∧ Carries s 0 ⟨600, 300, 700, 100, 100⟩ r intoPocket := by
  exact ⟨by unfold Awake Settled Room; decide +kernel, by constructor <;> decide +kernel⟩

/-- R68: the increment that raises REVERSAL at a mark's from node is not taken as the return, and neither is the next one, in HALTING. -/
theorem test_return_refused :
    let s := after (.encoderEdge 0 false) (onMap (pocket mark) .running [turning 0 4000] 0)
    let t := after (.encoderEdge 0 false) s
    s.rcv.jam.first.map (·.cause) = some .reversal ∧ t.flt.list.map (·.progress) = [.reversing] ∧
      t.flt.list.map (fun r => r.depth.map (·.value)) = [some (-4200)] := by
  decide +kernel

/-- A short sheet on the path's last step, to a local destination. -/
def lastly (d : Option Disp) (p : Option PurgeJoin) : Record :=
  { sheet with declared := 500, lead := ⟨4, 0, 0⟩, trailStep := 4, arrivals := [], leadExp := none, disp := d, purgeJoin := p }

/-- A record beside it, on an undefined route. -/
def beside (d : Option Disp) : Record := { sheet with sheet := 2, route := 9, leadExp := none, disp := d }
def left (p : PathState) (r : Record) (post : List Record) (t : Nat) : Prop :=
  ∀ x ∈ [([], none), ([{ group with admitted := 1 }], some ⟨0, 9, 1, true, false⟩), ([{ group with admitted := 2 }], some ⟨0, 9, 1, true, false⟩)],
  let r : Record := { r with setPart := x.2 }
  let s := setSets x.1 (carrying p (r :: post) t)
  Awake s ∧ 0 < s.zdu.zones.length ∧ s.pms.zone? 0 = some ⟨600, 300, 700, 100, 100⟩ ∧ moving s = true ∧
    definedEntries s.pms.gates = [] ∧ s.flt.list = [] ++ r :: post ∧ (s.flt.list.map (·.sheet)).Nodup ∧
    (∀ q ∈ [] ++ post, leadSeg s.pms q = none ∧ q.leadExp = none ∧ q.trailExp = none) ∧
    leadSeg s.pms r = some (path 3 4) ∧ r.progress = .moving ∧ r.depth = none ∧ r.leadExp = none ∧ r.trailExp = none ∧
    r.trailStep = r.lead.step ∧ r.lead.step = (pathOf s.pms r).length ∧ nodeKind s.pms 4 = some .dest ∧
    stationOfNode s.pms 4 = none ∧ Room 2 s

/-- Below and at the 110000 µm of its step and its length: the last record of RUNNING, one of two, in HALTING, and in RUNOUT beside a
record to deliver, beside one to retain, with a purge join beside each of these, and to be removed; of no set, the last member of
one, and one of two. -/
theorem witness_SheetsLeave :
    left .running (lastly none none) [] 109899 ∧ left .running (lastly none none) [] 109900 ∧
    left .running (lastly none none) [beside none] 109900 ∧ left .halting (lastly none none) [] 109900 ∧
    left .runout (lastly (some .deliver) none) [beside (some .deliver)] 109900 ∧
    left .runout (lastly (some .deliver) none) [beside (some .retain)] 109900 ∧
    left .runout (lastly (some .purge) (some ⟨0, 4, 4⟩)) [beside (some .deliver)] 109900 ∧
    left .runout (lastly (some .purge) (some ⟨0, 4, 4⟩)) [beside (some .retain)] 109900 ∧
    left .runout (lastly (some .remove) none) [] 109900 := by
  refine ⟨?_, ?_, ?_, ?_, ?_, ?_, ?_, ?_, ?_⟩ <;> unfold left Awake Settled Room <;> dsimp only <;> decide +kernel

theorem witness_StallsHandled :
    let still (n : Nat) (s : State) : State := setZone 0 { zoneAt s 0 with age := n } s;
    let s := still 100 (carrying .armed [] 0);
    (Awake s ∧ s.pms.zone? 1 = none ∧ (zoneAt (still 99 s) 0).age < 100) ∧
    (s.pms.zone? 0 = some ⟨600, 300, 700, 100, 100⟩ ∧ (zoneAt s 0).speed ≠ 0 ∧ (zoneAt s 0).stallMark = false ∧
      100 ≤ (zoneAt s 0).age ∧ 0 < s.zdu.zones.length ∧ s.rcv.path = .armed ∧ Room 1 s) ∧
    ∀ p ∈ [PathState.running, .runout], (carrying p [sheet] 0).rcv.path = p ∧ Room 1 (carrying p [sheet] 0) := by
  unfold Awake Settled Room; decide +kernel

/-- The millisecond of a second failure: a window of each kind with its time run out, and not. -/
theorem witness_WindowsRunOut_moment :
    let halt (r : Record) : State := setMoment ⟨[1], false⟩ (setJam ⟨some (jam .late (some 1)), some (jam .stall none), []⟩ (carrying .halting [r] 1000));
    let lead (k : LeadKind) (b : Option Nat) (n : Nat) : Option LeadExp := some ⟨k, 2, 0, 0, 58000, 64000, 30, b, n, if k = .remote then some (193, 244) else none⟩;
    ∀ r ∈ [{ sheet with leadExp := lead .travel (some 0) 0 }, { sheet with leadExp := lead .travel (some 1) 0 },
        { sheet with leadExp := none, trailExp := some ⟨1, 0, 0, 301000, 80, some 0⟩ },
        { sheet with leadExp := none, trailExp := some ⟨1, 0, 0, 301000, 80, some 1⟩ },
        { sheet with repick := 1, leadExp := lead .pick (some 0) 0 }, { sheet with repick := 0, leadExp := lead .pick (some 0) 0 },
        { sheet with leadExp := lead .remote none 247 }, { sheet with leadExp := lead .remote none 246 }],
      Awake (halt r) ∧ findRec (halt r) 1 = some r ∧ (halt r).rcv.path = .halting ∧ 1 ∈ (halt r).rcv.moment.sheets ∧
        (halt r).rcv.jam.second.isSome = true := by
  unfold Awake Settled; decide +kernel

theorem witness_WindowsRunOut :
    let lead (k : LeadKind) (b n : Nat) : LeadExp := ⟨k, 2, 0, 0, 58000, 64000, 30, if k = .remote then none else some b, n,
      if k = .remote then some (193, 244) else none⟩;
    let run (p : PathState) (r : Record) : State := carrying p [{ r with disp := if p = .runout then some .deliver else none }] 1000;
    let stay (b : Nat) : Record := { sheet with lead := ⟨3, 0, 0⟩, leadExp := none, trailExp := some ⟨1, 0, 0, 301000, 80, some b⟩ };
    let pick (n : Nat) : Record := { sheet with repick := n, leadExp := some (lead .pick 0 0) };
    (Awake (run .running sheet) ∧ findRec (run .running sheet) 65535 = none) ∧
    (∀ p ∈ [PathState.running, .runout], Awake (run p sheet) ∧ (findRec (run p sheet) 1).isSome = true ∧ (run p sheet).rcv.path = p ∧
      Room 1 (run p sheet) ∧ speedOf (run p sheet) 0 ≠ 0) ∧
    (¬((carrying .armed [sheet] 0).rcv.path = .running ∨ (carrying .armed [sheet] 0).rcv.path = .runout)) ∧
    ((lead .travel 0 0).kind = .travel ∧ (lead .travel 0 0).budget = some 0 ∧ (lead .travel 1 0).budget ≠ some 0 ∧
      ((stay 0).trailExp.bind (·.budget)) = some 0 ∧ ((stay 1).trailExp.bind (·.budget)) ≠ some 0) ∧
    ((lead .pick 0 0).kind = .pick ∧ (lead .pick 0 0).budget = some 0 ∧ (pick 0).repick = 0 ∧ (pick 1).repick = 1) ∧
    ((lead .remote 0 247).kind = .remote ∧ (lead .remote 0 247).times = some (193, 244) ∧
      244 + 3 * ((run .running sheet).xlm.stations.countP fun q => q.link != .absent) + 2 < (lead .remote 0 247).elapsed ∧
      (lead .remote 0 246).elapsed ≤ 244 + 3 * ((run .running sheet).xlm.stations.countP fun q => q.link != .absent) + 2) := by
  unfold Awake Settled Room; decide +kernel

/-- Halted by a sheet on a path with gates, a MOVING gate ahead of a second sheet that is to be delivered. -/
def gateHalt : State :=
  let s := setGate 0 ⟨some true, .moving, 3, false, false, none⟩
    (setList [{ sheet with sheet := 2, job := 5, lead := ⟨3, 0, 50000⟩, trailStep := 3, leadExp := none, arrivals := [] }] (at_ .halting gateMap))
  setJam ⟨some (jam .late (some 1)), none, []⟩ (quiet { s with
    pms := { s.pms with segs := s.pms.segs.set 2 (some { path 2 3 with retainOk := false }) }
    sfe := { s.sfe with feedback := List.replicate 6 true } })

theorem witness_StandstillPlans :
    (Awake awake ∧ awake.rcv.path ≠ .halting) ∧
    (let s := setQuiet 19 (haltedBy none [] [sheet]); Awake s ∧ ¬still s) ∧
    (Awake (quiet (carrying .halting [sheet] 0)) ∧ ¬still (quiet (carrying .halting [sheet] 0))) ∧
    (let s := haltedBy none [] [{ sheet with sheet := 2, progress := .announced }, sheet];
      Awake s ∧ s.rcv.path = .halting ∧ still s ∧ s.rcv.jam.second = none ∧ (s.flt.list.map (·.sheet)).Nodup ∧ sheet.progress ≠ .announced ∧
      s.rcv.jam.first = some (jam .late (some 1)) ∧ (jam .late (some 1)).sheet = some sheet.sheet) ∧
    (Awake gateHalt ∧ gateHalt.rcv.path = .halting ∧ still gateHalt ∧ gateHalt.rcv.jam.second = none ∧ (gateHalt.flt.list.map (·.sheet)).Nodup) := by
  unfold Awake Settled; decide +kernel

/-- A set at station 1 with something compiled in a jam area, and an ANNOUNCED member of it; the station's cancel queue has room or is
full, and the reprint queue too. -/
def spoiled (cancels entries : Nat) : State :=
  let s := haltedBy none [] [{ sheet with sheet := 2, progress := .announced, setPart := some ⟨0, 9, 2, false, false⟩ }]
  setSets [{ group with compiled := 1, handedOff := 1, admitted := 2 }] { s with
    pms := map (some 1)
    rcv := { s.rcv with jam := { s.rcv.jam with areas := [0] } }
    rpq := { s.rpq with queue := List.replicate entries (.set 5 0 0 0) }
    xlm := { s.xlm with stations := s.xlm.stations.set 0 { online with cancels := List.replicate cancels ⟨1, none⟩ } } }

theorem witness_StandstillPlans_discards : ∀ n ∈ [0, 8], ∀ k ∈ [0, 62, 63, 64],
    let s := spoiled n k;
    Awake s ∧ s.rcv.path = .halting ∧ still s ∧ s.rcv.jam.second = none ∧ (s.flt.list.map (·.sheet)).Nodup ∧ (s.xlm.sets.map (·.slot)).Nodup ∧
      (discardedSets s).length = 1 ∧ (s.flt.list.filter fun r => r.progress == .announced).length = 1 ∧
      ((setCancels s.pms (discardedSets s) s.xlm.stations).2 = [] ↔ n = 0) ∧ Room 3 s := by
  unfold Awake Settled Room; decide +kernel

/-- R106, R112, R134, R150, R155: the set's entry covers its member's, so one entry joins; its cancel joins the station's queue; and the
notices stand in order. -/
theorem test_set_discarded :
    let t := after .standstill (spoiled 0 0);
    t.rpq.queue = [.set 4 9 20 20] ∧ t.xlm.sets = [] ∧ (stationAt t 1).cancels = [⟨9, none⟩] ∧ t.flt.list = [] ∧
      t.clk.notices = [.voided 2 4 20 4 0, .plan 0 0 0 0 1 1 .clearing,
        .area 0 .needed (some false) 1 .listed none, .reprint 1 0 false] := by
  decide +kernel

/-- R109, R145: the discarded set holds another slot than the record's, whose set was ejected and its key used again. -/
theorem test_key_reused :
    let r (slot : Nat) : Record := { sheet with setPart := some ⟨slot, 9, 1, false, false⟩ };
    setKept ⟨[], [group], 0⟩ (r 0) = false ∧ setKept ⟨[], [group], 0⟩ (r 1) = true := by
  decide +kernel

/-- Halted with the path's last segment in zone 1, RETAIN_OK or not, its purge route route 1, which is that segment alone. -/
def planning (ok : Bool) (rs : List Record) : State :=
  let s := haltedBy none [] rs
  { s with pms := { s.pms with
      segs := s.pms.segs.set 3 (some { path 3 4 with zone := 1, retainOk := ok, purgeRoute := some 1 })
      routes := s.pms.routes.set 1 (some ⟨[3], true⟩) } }

/-- A sheet on the last step, and a blank one with the ordinal before it, one step behind. -/
def finishing (side : Option Imaging) : Record := { lastly none none with sheet := 2, sideA := side }
def before_ (sheetNo job : Nat) : Record :=
  { sheet with sheet := sheetNo, job := job, ordinal := 19, lead := ⟨3, 0, 0⟩, trailStep := 3, leadExp := none, arrivals := [] }

theorem seg_all (m : MapStore) (l : List Nat) (p : SegEntry → Prop) [DecidablePred p]
    (h : (l.all fun i => (m.seg? i).all fun g => decide (p g)) = true) : ∀ i ∈ l, ∀ g, m.seg? i = some g → p g := by
  intro i hi g hg
  simpa [hg] using List.all_eq_true.mp h i hi

theorem witness_StandstillPlans_retains :
    let s := planning true [finishing none];
    (Awake s ∧ s.rcv.path = .halting ∧ still s ∧ s.rcv.jam.second = none ∧ s.flt.list.length ≤ 24) ∧ RetainCapable s (finishing none) := by
  exact ⟨by unfold Awake Settled; decide +kernel, seg_all _ _ _ (by decide +kernel), Or.inl ⟨Or.inl rfl, Or.inl rfl⟩⟩

/-- A sheet that is not RETAIN-capable, a retained sheet of another stream in another zone beside it: PURGE-capable,
and without a side IMAGING DELIVER-capable. -/
theorem witness_StandstillPlans_chooses : ∀ side ∈ [none, some Imaging.imaging],
    let r := finishing side;
    let s := planning false [before_ 3 5, r];
    ¬Forced s r ∧ StreamFree s r ∧ ¬RetainCapable s r ∧ BodiesApart s r (runOutOf r (pathOf s.pms r)) ∧
      joinOf s.pms r = some ⟨1, 1, 4⟩ ∧ BodiesApart s r (runOutOf r (joinedPath s.pms r ⟨1, 1, 4⟩)) ∧
      (DeliverCapable s r ↔ side = none) ∧ PurgeCapable s r ⟨1, 1, 4⟩ := by
  intro side h
  have q (r : Record) : ∀ q ∈ (planning false [before_ 3 5, r]).flt.list, q.sheet ≠ r.sheet → q = before_ 3 5 := by
    intro q hq hn
    have : q = before_ 3 5 ∨ q = r := by simpa using (show q ∈ [before_ 3 5, r] from hq)
    exact this.resolve_right fun e => hn (e ▸ rfl)
  have apart (r : Record) (l : List Nat) (hl : l = [3]) : BodiesApart (planning false [before_ 3 5, r]) r l := by
    rintro x hx hn i hi k hk
    obtain rfl := q r x hx hn
    obtain rfl : i = 3 := by simpa [hl] using hi
    obtain rfl : k = 2 := by
      replace hk : k ∈ bodySteps (planning false []).pms (before_ 3 5) := hk
      revert k; decide +kernel
    refine ⟨by decide, fun g h hg hh => ?_⟩
    cases hg; cases hh; decide
  have none_ : ∀ e, ¬Spoiled (planning false [before_ 3 5, finishing side]) e := fun e he => nomatch (show e ∈ ([] : List SetEntry) from he)
  simp only [List.mem_cons, List.not_mem_nil, or_false] at h
  refine ⟨?_, Or.inr ⟨fun x hx hn => ?_, fun e he => absurd he (none_ e)⟩, fun hc => ?_, apart _ _ ?_, ?_, apart _ _ ?_, ⟨fun hd => ?_, ?_⟩,
    ⟨?_, seg_all _ _ (fun g => g.area ∉ _ ∧ g.kind ≠ .reverse) ?_, ?_⟩⟩
  · rintro (⟨c, hc, hs⟩ | ⟨a, ha, -⟩)
    · cases hc; revert hs; rcases h with rfl | rfl <;> decide +kernel
    · exact nomatch ha
  · obtain rfl := q _ x hx hn; rcases h with rfl | rfl <;> decide +kernel
  · have := hc.1 3 (by rcases h with rfl | rfl <;> decide +kernel) _ rfl; revert this; decide
  · rcases h with rfl | rfl <;> decide +kernel
  · rcases h with rfl | rfl <;> decide +kernel
  · rcases h with rfl | rfl <;> decide +kernel
  · rcases h with rfl | rfl
    · rfl
    · exact absurd hd.sides.1 (by unfold Imaged; decide)
  · rintro rfl
    exact ⟨⟨Or.inl rfl, Or.inl rfl⟩, seg_all _ _ (fun g => g.area ∉ _ ∧ g.kind ≠ .reverse) (by decide +kernel),
      (fun k hk => nomatch hk), by decide +kernel, fun _ _ hp _ => nomatch hp⟩
  · rcases h with rfl | rfl <;> decide +kernel
  · rcases h with rfl | rfl <;> decide +kernel
  · rcases h with rfl | rfl <;> decide +kernel

/-- A side IMAGING and no purge route: no capability at all. -/
theorem witness_StandstillPlans_removes :
    let r := finishing (some .imaging);
    let s := haltedBy none [] [r];
    ¬RetainCapable s r ∧ ¬DeliverCapable s r ∧ ∀ j, ¬PurgeCapable s r j := by
  refine ⟨fun h => ?_, fun h => absurd h.sides.1 (by unfold Imaged; decide), fun j h => ?_⟩
  · rcases h.2 with h | h
    · exact absurd h.1 (by unfold NotStarted; decide)
    · exact absurd h.2.1 (by decide)
  · exact nomatch (show none = some j from h.join)

/-- R107, R109 to R111: the stream's earlier sheet retained, taken out, or of another stream; a side IMAGING; two sheets that go; and
a sheet that is taken out on the run-out path of another. -/
theorem test_plan_streams :
    let plan (ok : Bool) (rs : List Record) : List (Option Disp) := (after .standstill (planning ok rs)).flt.list.map (·.disp)
    let r := finishing none
    plan true [before_ 3 4, r] = [some .retain, some .retain] ∧ plan false [before_ 3 4, r] = [some .retain, some .purge] ∧
      plan false [before_ 1 4, r] = [some .remove, some .purge] ∧ plan false [before_ 3 5, r] = [some .retain, some .deliver] ∧
      plan false [before_ 3 5, finishing (some .imaging)] = [some .retain, some .purge] ∧
      plan false [r, { r with sheet := 4, ordinal := 21 }] = [some .deliver, some .deliver] ∧
      plan false [before_ 1 5, { r with trailStep := 3 }] = [some .remove, some .remove] := by
  decide +kernel

/-- R45, R113, R117: the run-out begins, the gate starts MOVING with the sheet within its guard distance, and GATE is the second cause. -/
theorem test_runout_gate :
    let t := after .standstill gateHalt;
    t.rcv.path = .halting ∧ t.rcv.jam.second.map (·.cause) = some .gate ∧ t.flt.list.map (·.disp) = [none] := by
  decide +kernel

/-- R107, R110, R112, R39: the sheet that the cause names is REMOVE; a blank sheet on a last segment without RETAIN_OK is
delivered, its zone at floor(300 / 2). -/
theorem test_standstill_removes : (after .standstill (haltedBy none [] [sheet])).rcv.path = .clearing := by decide +kernel

/-- R38, R104: STANDSTILL beside a counted edge of the coast leaves HALTING as it is; the next 20 ms without one bring it. -/
theorem test_standstill_waits :
    let s := after (.encoderEdge 0 true) (haltedBy none [] [sheet]);
    let p (n : Nat) : PathState := (after .standstill (setQuiet n s)).rcv.path;
    (after .standstill s).rcv.path = .halting ∧ p 19 = .halting ∧ p 20 = .clearing := by
  decide +kernel

theorem test_standstill_runs_out :
    let r : Record := { sheet with sheet := 2, lead := ⟨4, 0, 0⟩, trailStep := 4, leadExp := none, arrivals := [] };
    let s := haltedBy none [] [r];
    let t := after .standstill { s with pms := { s.pms with segs := s.pms.segs.set 3 (some { path 3 4 with retainOk := false }) } };
    t.rcv.path = .runout ∧ t.flt.list.map (·.disp) = [some .deliver] ∧ speedOf t 0 = 150 := by
  decide +kernel

/-- R114: in RUNOUT a REMOVE record whose trail has left stays in the list. -/
theorem test_remove_stays :
    let n (d : Disp) : Nat := (after (.encoderEdge 0 true) (carrying .runout [lastly (some d) none, beside (some .deliver)] 109900)).flt.list.length
    n .remove = 2 ∧ n .deliver = 1 := by
  decide +kernel

/-- R84: with a min gap of 0 a lead beyond its node is no CROWD. -/
theorem test_no_crowd :
    let m (gap : Nat) : MapStore := { map none with params := some ⟨gap, 50, 75⟩ }
    let path (gap : Nat) : PathState := (after (.sensorEdge 0 700 701) (trails (m gap) false [leaving 2 [], follower 151000] 299099)).rcv.path
    path 0 = .running ∧ path 1 = .halting := by
  decide +kernel

theorem witness_StandstillWritesBack :
    let r : Record := { sheet with disp := some .deliver, leadExp := none };
    let s := haltedBy (some (jam .stay (some 2))) [(1, .retain)]
      [{ r with disp := none }, { r with sheet := 2, ordinal := 19, job := 5, disp := none }];
    Awake s ∧ s.rcv.path = .halting ∧ still s ∧ s.rcv.jam.second.isSome = true ∧
      s.flt.list[1]? = some { r with sheet := 2, ordinal := 19, job := 5, disp := none } := by
  unfold Awake Settled; decide +kernel

theorem witness_AreasChecked :
    let s := clearing [0] .checking [];
    let d := clearing [0] .needed [0];
    (Awake awake ∧ awake.rcv.path ≠ .clearing ∧ 0 ∉ awake.clm.due ∧ (areaAt (setArea 0 ⟨.checking, 299⟩ s) 0).timer < 300) ∧
    (Awake s ∧ (areaAt s 0).status = .checking ∧ 300 ≤ (areaAt s 0).timer ∧ s.rcv.path = .clearing ∧ 0 ∈ s.clm.list ∧
      0 < s.clm.areas.length ∧ s.flt.list = []) ∧
    (Awake d ∧ (areaAt d 0).status = .needed ∧ 0 ∈ d.clm.due ∧ d.rcv.path = .clearing ∧ 0 ∈ d.clm.list) ∧
    (let c := reading 2 100 .covered s;
      sensorNodes c.pms = [(1, sensor 0)] ++ (2, sensor 1) :: [(3, sensor 2)] ∧
      (∀ x ∈ [(1, sensor 0)], ¬(x.2.area = 0 ∧ covered c x.1 = true ∧ skipped c x.1 = false)) ∧
      ((sensor 1).area = 0 ∧ covered c 2 = true ∧ skipped c 2 = false) ∧ Room 1 c) ∧
    ((∀ x ∈ sensorNodes s.pms, ¬(x.2.area = 0 ∧ covered s x.1 = true ∧ skipped s x.1 = false)) ∧
      (clearing [0, 11] .checking []).clm.list.filter (fun b => b ≠ 0) ≠ [] ∧
      s.clm.list.filter (fun b => b ≠ 0) = [] ∧ allCoversClosed s = true ∧ Room 2 s) := by
  unfold Awake Settled Room; decide +kernel

/-- A path in three areas, the second at node 2 and its segment, and a REMOVE record over areas 1 and 2. -/
def areaMap : MapStore :=
  { map none with
    nodes := (map none).nodes.set 2 (some { sensor 1 with area := 1 })
    segs := [some feed, some { path 1 2 with area := 1 }, some { path 2 3 with area := 2 }, some (path 3 4)] ++ List.replicate 44 none
    areas := [some ⟨.line 0, 1⟩, some ⟨.line 1, 2⟩, some ⟨.line 2, 0⟩] ++ List.replicate 9 none }
def fallen (step : Nat) : Record :=
  { sheet with
    declared := 500, leadExp := none, disp := some .remove, lead := ⟨step, 0, 10000⟩, trailStep := 2,
    arrivals := [⟨2, 0, 0, 1, false⟩] }
def releasing (step : Nat) (l : List Nat) : State :=
  setClearance l (setArea 1 ⟨.checking, 300⟩ (setArea 2 ⟨.needed, 0⟩ (setList [fallen step] (at_ .clearing areaMap))))

theorem witness_AreasRelease :
    (∀ n ∈ [3, 4], ∀ l ∈ [[1], [1, 2], [0, 1]],
      let s := if n = 4 then reading 3 100 .covered (releasing n l) else releasing n l;
      Awake s ∧ s.rcv.path = .clearing ∧ 1 ∈ s.clm.list ∧ s.clm.areas.length = 12 ∧ (areaAt s 1).status = .checking ∧
      300 ≤ (areaAt s 1).timer ∧ definedEntries s.pms.gates = [] ∧ (s.flt.list.map (·.sheet)).Nodup ∧
      (s.flt.list.filter fun q => removing q && (bodyAreas s.pms q).contains 1) = [fallen n] ∧
      (∀ x ∈ sensorNodes s.pms, ¬(x.2.area = 1 ∧ covered s x.1 = true ∧ skipped s x.1 = false)) ∧ Room 4 s) ∧
    (let s := releasing 3 [1, 2];
      (∀ x ∈ sensorNodes s.pms, ¬(liesOver s.pms (fallen 3) x.1 = true ∧ covered s x.1 = true ∧ skipped s x.1 = false)) ∧
      s.clm.list.filter (fun b => b ≠ 1) ≠ [] ∧ (releasing 3 [1]).clm.list.filter (fun b => b ≠ 1) = [] ∧
      allCoversClosed (releasing 3 [1]) = true) ∧
    (let s := reading 3 100 .covered (releasing 4 [1]);
      (liesOver s.pms (fallen 4) 3 = true ∧ covered s 3 = true ∧ skipped s 3 = false) ∧
      (∀ x ∈ sensorNodes s.pms, liesOver s.pms (fallen 4) x.1 = true ∧ covered s x.1 = true ∧ skipped s x.1 = false → x.1 = 3) ∧
      3 ∈ (sensorNodes s.pms).map (·.1) ∧ nodeArea s.pms 3 = some 0 ∧ s.pms.area? 0 = some ⟨.line 0, 1⟩ ∧
      0 ∉ s.clm.list.filter (fun b => b ≠ 1) ∧ 0 ∈ (releasing 4 [0, 1]).clm.list.filter (fun b => b ≠ 1)) := by
  unfold Awake Settled Room; decide +kernel

/-- R148: the record taken out is one of two members of a set, or the last one left. -/
theorem test_removed_member :
    let r : Record := { fallen 3 with setPart := some ⟨0, 9, 2, true, false⟩, handOff := true };
    let sets (n : Nat) : List SetEntry :=
      (after (.areaCheck 1) (setSets [{ group with admitted := n, handedOff := 1, compiled := 1, closed := true, lastSeen := true }]
        (setList [r] (releasing 3 [1, 2])))).xlm.sets;
    sets 2 = [group] ∧ sets 1 = [] := by
  decide +kernel

/-- R152: the driver enable is down when the POLL has been sent, though its exchange is open, and stays so until the next slot. -/
theorem test_driver_enable :
    let s := after .pollSlot (setExchange none (polling .config online))
    let slot (n : Nat) : Bool := driverEnable { s with xlm := { s.xlm with slot := n } }
    s.xlm.exchange.isSome = true ∧ slot 0 = true ∧ slot 1 = false ∧ slot 2 = false ∧ slot 3 = false := by
  decide +kernel

theorem witness_SlotsPoll :
    let s := setExchange none (polling .config online);
    (Awake awake ∧ 1 ≤ awake.xlm.lastPolled ∧ awake.xlm.lastPolled ≤ 3 ∧ awake.xlm.stations.length = 3 ∧ awake.xlm.exchange = none ∧
      ∀ k ∈ [1, 2, 3], ¬((stationAt awake k).link = .online ∨ ((stationAt awake k).link = .lost ∧ 100 ≤ (stationAt awake k).retry))) ∧
    (Awake s ∧ s.xlm.exchange = none ∧ s.xlm.lastPolled = 3 ∧ [1, 2, 3] = [] ++ 1 :: [2, 3] ∧ (stationAt s 1).link = .online) ∧
    (let l : StationState := { online with link := .lost, retry := 100 };
      (stationAt (polling .config l) 1).link = .lost ∧ 100 ≤ (stationAt (polling .config l) 1).retry) ∧
    (polling .config online).xlm.exchange = some ⟨1, [], [], []⟩ := by
  unfold Awake Settled; decide +kernel

theorem witness_RepliesAcknowledge :
    let s := polling .running online;
    let l := polling .running { online with link := .lost };
    (Awake awake ∧ awake.xlm.exchange = none) ∧
    (Awake s ∧ s.xlm.exchange = some ⟨1, [], [], []⟩ ∧ (2 : Byte).toNat ≠ 1 ∧ s.xlm.stations.length = 3 ∧
      (stationAt s 1).jamFlag = false ∧ (stationAt s 1).link ≠ .lost) ∧
    (Awake l ∧ (stationAt l 1).link = .lost ∧ (stationAt l 1).jamFlag = false ∧ Room 1 l) := by
  unfold Awake Settled Room; decide +kernel

/-- A sheet whose lead is on its way to the REMOTE node 3 and one whose trail is, with a POLL of station 1 open. -/
def coming (elapsed : Nat) : Record :=
  { sheet with
    lead := ⟨3, 0, 0⟩, trailStep := 2, arrivals := [⟨2, 0, 0, 1, false⟩], handOff := true,
    leadExp := some ⟨.remote, 3, 0, 0, 58000, 64000, 30, none, elapsed, some (193, 244)⟩ }
def gone : Record := { sheet with lead := ⟨4, 0, 0⟩, leadExp := none, trailStep := 3, arrivals := [], handOff := true }
def asked (p : PathState) (q : StationState) (rs : List Record) : State :=
  setExchange (some ⟨1, [], [], []⟩) (setStation 1 q (onMap (farMap (some 1)) p rs 60000))

theorem polled (p : PathState) (q : StationState) (rs : List Record) (h : q.link = .online) : Polled (asked p q rs) ⟨1, [], [], []⟩ :=
  ⟨⟨rfl, rfl, rfl⟩, rfl, ⟨by decide, by decide, rfl⟩, h⟩

/-- An elapsed count of 200 less an age of 7 is the early time 193; one of 8 is below it. -/
theorem witness_ReportsJudged :
    let s := asked .running online [coming 200];
    let g := asked .running online [gone];
    Polled s ⟨1, [], [], []⟩ ∧ Polled g ⟨1, [], [], []⟩ ∧
    ((stationAt s 1).jamFlag = false ∧ remoteNode s.pms 1 7 = none ∧ remoteNode s.pms 1 0 = some 3 ∧ Room 1 s ∧ moving s = true ∧
      moving (asked .armed online []) = false ∧ findRec s 65535 = none ∧ findRec s 1 = some (coming 200)) ∧
    (200 - min (7 + 0) 255 = 193 ∧ 200 - min (255 + 1) 255 < 193 ∧ definedEntries s.pms.gates = [] ∧ (coming 200).progress = .moving ∧
      (coming 200).handOff = true ∧ (coming 200).trailStep < (coming 200).lead.step ∧ (heldEntry s (coming 200)).isSome = true ∧
      stepSeg s.pms (coming 200) 4 = some (toStation 3 4) ∧ nodeKind s.pms 4 = some .dest) ∧
    (findRec g 1 = some gone ∧ gone.leadExp = none ∧ (pathOf g.pms gone).take 3 = [0, 1, 2] ∧ g.pms.seg? 2 = some (toStation 2 3)) ∧
    (gone.trailStep < gone.lead.step ∧ trailNext g.pms gone = some 3 ∧ gone.trailStep + 1 = gone.lead.step ∧
      stepSeg g.pms gone 3 = some (toStation 2 3) ∧ leadSeg g.pms gone = some (toStation 3 4) ∧ markLike g 4 = false ∧
      (stationOfNode g.pms 4).isSome = true) ∧
    (trailNext s.pms (coming 200) ≠ some 3 ∧ (pathOf s.pms (coming 200)).take 1 = [0] ∧ s.pms.seg? 0 = some feed ∧ feed.dst ≠ 3) ∧
    (let e := asked .halting online [{ coming 200 with leadExp := none }];
      (pathOf e.pms (coming 200)).take 2 = [0, 1] ∧ e.pms.seg? 1 = some (path 1 2) ∧ (path 1 2).dst ≠ 3 ∧ e.rcv.path = .halting) := by
  exact ⟨polled _ _ _ rfl, polled _ _ _ rfl, by unfold Room; decide +kernel⟩

/-- A set at station 1 of which `n` sheets were handed off. -/
def compiling (n : Nat) (closed last : Bool) : SetEntry := { group with handedOff := n, closed := closed, lastSeen := last }

theorem witness_RepliesCarry :
    let s := asked .running online [gone, { gone with sheet := 2 }];
    let w (y : SetEntry) : State := setSets [y] s;
    let c (p : PathState) (q : StationState) : State :=
      { asked p q [gone] with pms := { farMap (some 1) with areas := [some ⟨.line 0, 1⟩, some ⟨.station 1 3, 2⟩] ++ List.replicate 10 none } };
    let jammed : StationState := { online with jamFlag := true, jamArea := some 0 };
    Polled s ⟨1, [], [], []⟩ ∧
    ((stationAt s 1).jamFlag = false ∧ findRec s 65535 = none ∧ Room 2 s ∧ findRec s 1 = some gone ∧
      stationOfNode s.pms (routeDest s.pms gone.route) = some 1 ∧ definedEntries s.pms.gates = [] ∧ s.rcv.path = .running ∧
      s.flt.list.any (fun y => y.sheet != 1) = true ∧ (asked .halting online [gone]).rcv.path = .halting) ∧
    ((s.xlm.sets.find? fun e => e.number == 65535 && stationOfNode s.pms e.dest == some 1) = none ∧
      ∀ y ∈ [compiling 3 true true, compiling 3 false true, compiling 3 true false],
        ((w y).xlm.sets.find? fun e => e.number == 9 && stationOfNode s.pms e.dest == some 1) = some y) ∧
    (3 < 4 ∧ online.covers[3]? = some (!true) ∧ online.covers[3]? = some false ∧ areasOfCover s.pms (.station 1 0) = [] ∧
      areasOfCover (c .running online).pms (.station 1 3) = [1] ∧
      ∀ p ∈ [PathState.running, .runout], (c p online).rcv.path = p ∧ (c p online).sfe.calib = none ∧ Room 2 (c p online) ∧
        stationInUse (c p online) 1 = true) ∧
    (stationInUse (asked .armed online []) 1 = false ∧ (stationAt (c .running jammed) 1).jamFlag = true ∧ Room 1 (c .running jammed)) := by
  exact ⟨polled _ _ _ rfl, by unfold Room; decide +kernel⟩

theorem witness_MissesCount :
    let s (p : PathState) (n : Nat) : State := polling p { online with miss := n };
    (Awake awake ∧ awake.xlm.exchange = none) ∧
    (Awake (s .config 1) ∧ (s .config 1).xlm.exchange = some ⟨1, [], [], []⟩ ∧ (s .config 1).xlm.stations.length = 3 ∧
      (stationAt (s .config 1) 1).link = .online ∧ (stationAt (s .config 1) 1).miss < 2) ∧
    (stationAt (polling .config { online with link := .lost }) 1).link ≠ .online ∧
    (2 ≤ (stationAt (s .armed 2) 1).miss ∧ ¬((s .armed 2).rcv.path = .running ∨ (s .armed 2).rcv.path = .runout) ∧ Room 1 (s .armed 2)) ∧
    ∀ p ∈ [PathState.running, .runout], (let t := grouped (s p 2);
      Awake t ∧ 2 ≤ (stationAt t 1).miss ∧ t.rcv.path = p ∧ stationInUse t 1 = true ∧ Room 2 t) := by
  unfold Awake Settled Room; decide +kernel

theorem witness_PresenceFollows :
    (Awake awake ∧ awake.xlm.stations.length = 3 ∧ (stationAt awake 3).present = false ∧ Room 1 awake) ∧
    (∀ p ∈ [PathState.running, .runout], (let t := grouped (polling p online);
      (stationAt t 1).present = true ∧ t.rcv.path = p ∧ stationInUse t 1 = true ∧ Room 2 t)) ∧
    (stationInUse (polling .running online) 1 = false ∧ Room 1 (polling .running online)) := by
  unfold Awake Settled Room; decide +kernel

theorem witness_SupplyWatched :
    let a := at_ .armed (map none);
    let r := carrying .running [sheet] 0;
    (Awake (warned awake) ∧ (warned awake).spm.warn = true ∧ Room 1 (warned awake)) ∧
    (Awake a ∧ a.spm.warn = false ∧ a.rcv.path = .armed ∧ (a.flt.list = [] ∧ a.xlm.sets = []) ∧ Room 2 a) ∧
    (Awake r ∧ r.spm.warn = false ∧ r.rcv.path = .running ∧ ¬(r.flt.list = [] ∧ r.xlm.sets = []) ∧ r.spm.ops = [] ∧ Room 2 r) ∧
    (awake.rcv.path ≠ .armed ∧ awake.rcv.path ≠ .running ∧ awake.rcv.path ≠ .runout ∧ awake.rcv.jam.second = none ∧
      (awake.flt.list = [] ∧ awake.xlm.sets = [])) ∧
    ((grouped awake).rcv.path ≠ .runout ∧ (grouped awake).xlm.sets ≠ [] ∧ (grouped awake).spm.ops = [] ∧ Room 1 (grouped awake)) ∧
    (carrying .runout [{ sheet with disp := some .deliver }] 0).rcv.path = .runout := by
  unfold Awake Settled Room; decide +kernel

theorem witness_RowsEnd :
    let bs : List Byte := List.replicate 16 0;
    let full : List Byte := List.replicate 16 0xA5;
    let one (k : OpKind) (rest : List RowOp) : State := writing (⟨k, [(0, bs)]⟩ :: rest) awake;
    let held (s : State) : State := { s with sys := { s.sys with resetWait := some .linkBreak } };
    let drops (row : Nat) (marker : Bool) : State :=
      marked marker true { writing [⟨.snapshot .power 1 0 0, [(row, full)]⟩] awake with
        spm := { (writing [⟨.snapshot .power 1 0 0, [(row, full)]⟩] awake).spm with dropWait := some 5 } };
    (Awake awake ∧ awake.spm.ops = []) ∧
    ((writing [⟨.snapshot .power 1 0 0, (1, bs) :: (0, bs) :: []⟩] awake).spm.ops = ⟨.snapshot .power 1 0 0, (1, bs) :: (0, bs) :: []⟩ :: []) ∧
    ((one .invalidate []).spm.ops = [⟨.invalidate, [(0, bs)]⟩] ∧ (one .invalidate []).sys.resetWait = none ∧
      (one .invalidate []).spm.dropWait = none ∧ Room 1 (one .invalidate [])) ∧
    ((held (one (.snapshot .linkBreak 1 0 0) [])).sys.resetWait = some .linkBreak ∧
      ((held (one .invalidate [⟨.invalidate, [(0, bs)]⟩])).sys.resetWait ≠ none ∧ [RowOp.mk .invalidate [(0, bs)]] ≠ []) ∧
      writingSnapshot { awake.spm with ops := [⟨.snapshot .power 1 0 0, [(0, bs)]⟩] } = true) ∧
    (∀ x ∈ [(0, false), (1, false), (1, true)], (drops x.1 x.2).spm.dropWait = some 5 ∧ (drops x.1 x.2).sys.resetWait = none ∧
      (drops x.1 x.2).spm.ops = [⟨.snapshot .power 1 0 0, [(x.1, full)]⟩] ∧ Room 1 (drops x.1 x.2)) := by
  unfold Awake Settled Room; decide +kernel

/-- A running part with a sheet lies within its capacities and its path state governs the rest; the step of a count of its zone's
encoder answers a next state. -/
theorem witness_CapacitiesKept :
    let s := queued [.encoderEdge 0 true] (carrying .running [sheet] 1000);
    Within s ∧ ∃ t, step s = .next t := by
  refine ⟨?_, _, rfl⟩
  constructor
  · constructor <;> rfl
  · constructor <;> rfl
  · constructor <;> decide +kernel
  all_goals decide +kernel

theorem witness_PathStateGoverns :
    let s := queued [.encoderEdge 0 true] (carrying .running [sheet] 1000);
    Governed s ∧ ∃ t, step s = .next t := by
  refine ⟨⟨?_, ?_, ?_, ?_, ?_⟩, _, rfl⟩ <;> decide +kernel

theorem witness_StepsLeaveAlone :
    let s := queued [.encoderEdge 0 true] (carrying .running [sheet] 1000);
    (∃ t, step s = .next t ∧ t.sys.live = true) ∧ s.rcv.path ≠ .config ∧ (∀ c, s.pending.head? = some c → writesRows c = false) ∧
      s.pending.head? ≠ some .transmitEnd := by
  refine ⟨⟨_, rfl, by decide +kernel⟩, by decide, ?_, by decide⟩
  rintro c ⟨⟩
  rfl

end Sys2Proof.Tests
end

section
/-! SUPPORT. What no step touches and no step outgrows: the relation `Steady`, which unlike `Ordinary` allows for pins, for the
receiver and for resets; the requests and the events in it; and the milliseconds. It ends in what every step keeps (`Keeps`). -/

namespace Sys2Proof.Machine

/-! ## Tables keep their sizes -/

theorem mapRange_length {α : Type} (f : α → α) (k n : Nat) (l : List α) : (mapRange f k n l).length = l.length := by
  fun_induction mapRange f k n l with
  | case1 => rfl
  | case2 => rfl
  | case3 n x xs ih => simp [ih]
  | case4 k n x xs ih => simp [ih]

theorem writeFrom_length {α : Type} (k : Nat) (ys : List α) (l : List (Option α)) : (writeFrom k ys l).length = l.length := by
  fun_induction writeFrom k ys l with
  | case1 => rfl
  | case2 => rfl
  | case3 y ys x xs ih => simp [ih]
  | case4 k y ys x xs ih => simp [ih]

/-- A table that takes new entries keeps its size. -/
theorem putTable_length {α : Type} {decode : List Byte → Option α} {clash : α → α → Bool} {first : Nat} {bodies : List (List Byte)}
    {t u : List (Option α)} (h : putTable decode clash first bodies t = .inr u) : u.length = t.length := by
  unfold putTable at h
  split at h
  · cases h
  · dsimp only at h
    split at h
    · cases h
    · cases h
      exact writeFrom_length _ _ _

theorem map_inr {α β : Type} {f : α → β} {x : Nat ⊕ α} {b : β} (h : x.map id f = .inr b) : ∃ a, x = .inr a ∧ f a = b := by
  cases x with
  | inl i => cases h
  | inr a => exact ⟨a, rfl, Sum.inr.inj h⟩

theorem clearTable_sized (table : Nat) {m : MapStore} (h : m.Sized) : (clearTable table m).Sized := by
  obtain ⟨h1, h2, h3, h4, h5, h6, h7⟩ := h
  unfold clearTable
  split <;> constructor <;> simp [*]

theorem putEntries_sized {m m' : MapStore} {table first : Nat} {bodies : List (List Byte)} {c : Bool}
    (h : putEntries m table first bodies = .inr (m', c)) (w : m.Sized) : m'.Sized := by
  unfold putEntries at h
  split at h
  case h_1 =>
    unfold putParams at h
    split at h
    · split at h
      · cases h
        exact { w with }
      · cases h
    · cases h
  case h_9 => cases h
  all_goals
    obtain ⟨t, ht, e⟩ := map_inr h
    cases e
    have hl := putTable_length ht
  · exact { w with nodes := hl.trans w.nodes }
  · exact { w with segs := hl.trans w.segs }
  · exact { w with routes := hl.trans w.routes }
  · exact { w with areas := hl.trans w.areas }
  · exact { w with zones := hl.trans w.zones }
  · exact { w with gates := hl.trans w.gates }
  · exact { w with media := hl.trans w.media }

/-! ## Settled states -/

theorem within_iff_ended {s : State} : Within s ↔ Within (ended s) ∧ Settled s :=
  ⟨fun w => ⟨{ w with owed := rfl, ended := rfl }, w.owed, w.ended⟩, fun ⟨w, q⟩ => { w with owed := q.1, ended := q.2 }⟩

theorem settled_finish (s : State) : Settled (finish s) := ⟨finish_touched s, finish_underway s⟩

theorem settled_takeEvent {f : State → State} {s : State} (h : Settled s) : Settled (takeEvent f s) := by
  unfold takeEvent
  split
  · exact settled_finish _
  · exact h

theorem settled_unlessPending {k t : Byte} {f : State → State} {s : State} (h : Settled s) (hf : Settled (f s)) :
    Settled (unlessPending k t f s) := by
  unfold unlessPending
  split
  · exact hf
  · exact h
  · exact h

theorem settled_cutFrame {s : State} (h : Settled s) : Settled (cutFrame s) := by
  unfold cutFrame
  dsimp only
  split
  · split
    · exact h
    · exact settled_unlessPending h h
  · exact h

theorem settled_takeRequest {k t : Byte} {f : State → State} {s : State} (h : Settled s) : Settled (takeRequest k t f s) := by
  have hc : Settled (cutFrame (hear s)) := settled_cutFrame h
  unfold takeRequest
  split
  · dsimp only
    split
    · exact hc
    · exact settled_unlessPending hc (settled_finish _)
  · exact h

/-! ## Steady operations -/

/-- What an operation keeps, from `s` to `t`, where it may set pins, move the receiver, or end in a reset. The map stays where `P` holds,
which is then kept too. -/
structure Steady (P : State → Prop) (s t : State) : Prop where
  live : t.sys.live = true → s.sys.live = true
  map : t.sys.live = true → P s → t.pms = s.pms ∧ P t
  rows : t.spm.rows = s.spm.rows
  notices : t.sys.live = true → s.clk.notices <+: t.clk.notices
  stores : Within (ended s) → Within (ended t)

/-- No MAP_PUT writes: the path is out of CONFIG (R2), or a reply is pending, so that no request is performed (R180). -/
def Locked (s : State) : Prop := s.rcv.path ≠ .config ∨ s.clk.reply ≠ .none

/-- The map stays in any case. -/
def Always (_ : State) : Prop := True

namespace Steady

variable {P : State → Prop} {s t u : State}

theorem refl (s : State) : Steady P s s := ⟨id, fun _ h => ⟨rfl, h⟩, rfl, fun _ => List.prefix_refl _, id⟩

theorem trans (h : Steady P s t) (k : Steady P t u) : Steady P s u where
  live l := h.live (k.live l)
  map l p := by
    obtain ⟨e, q⟩ := h.map (k.live l) p
    obtain ⟨e', q'⟩ := k.map l q
    exact ⟨e'.trans e, q'⟩
  rows := k.rows.trans h.rows
  notices l := (h.notices (k.live l)).trans (k.notices l)
  stores w := k.stores (h.stores w)

theorem foldl {α : Type} {f : State → α → State} (h : ∀ s x, Steady P s (f s x)) (l : List α) (s : State) :
    Steady P s (l.foldl f s) := by
  induction l generalizing s with
  | nil => exact refl s
  | cons x xs ih => exact (h s x).trans (ih _)

end Steady

theorem Ordinary.steady {P : State → Prop} {s t : State} (h : Ordinary s t) (hP : P s → P t) : Steady P s t :=
  ⟨fun l => h.sys ▸ l, fun _ p => ⟨h.pms, hP p⟩, h.rows, fun _ => h.notices, h.stores⟩

theorem Ordinary.always {s t : State} (h : Ordinary s t) : Steady Always s t := h.steady id

/-- An operation on the receiver, the reply and the break detection alone. -/
theorem setClk_steady {P : State → Prop} {c : Clk} {s : State} (hn : c.notices = s.clk.notices)
    (he : (c.enHalt, c.enAttn, c.enAux) = (s.clk.enHalt, s.clk.enAttn, s.clk.enAux)) (hP : P s → P (setClk c s)) :
    Steady P s (setClk c s) := by
  simp only [Prod.mk.injEq] at he
  obtain ⟨h1, h2, h3⟩ := he
  exact ⟨id, fun _ p => ⟨rfl, hP p⟩, rfl, fun _ => by simp [hn], fun w => { w with
    enables := by simpa [h1, h2, h3] using w.enables, notices := by simpa [hn] using w.notices, owed := rfl, ended := rfl }⟩

theorem setPins_steady {P : State → Prop} {p : Pins} {s : State} (h : s.pins.Sized → p.Sized) (hP : P s → P { s with pins := p }) :
    Steady P s { s with pins := p } :=
  ⟨id, fun _ q => ⟨rfl, hP q⟩, rfl, fun _ => List.prefix_refl _, fun w => { w with pins := h w.pins, owed := rfl, ended := rfl }⟩

end Sys2Proof.Machine
end

section
namespace Sys2Proof.Machine

/-! ## Requests -/

theorem hear_steady (s : State) : Steady Locked s (hear s) := by
  have h : Steady Locked s { s with pins := { s.pins with rxHigh := true } } := setPins_steady (fun w => { w with }) id
  exact h.trans (setClk_steady rfl rfl id)

theorem unlessPending_steady {k t : Byte} {f : State → State} {s : State} (h : s.clk.reply = .none → Steady Locked s (f s)) :
    Steady Locked s (unlessPending k t f s) := by
  unfold unlessPending
  split
  · exact h ‹_›
  · exact setClk_steady rfl rfl id
  · exact .refl s

/-- What is answered locks the map. -/
@[simp] theorem locked_answer (k t : Byte) (st : Status) (c : Bool) (f : List Byte) (s : State) : Locked (answer k t st c f s) :=
  .inr (by simp [answer])

@[simp] theorem locked_done (k t : Byte) (f : List Byte) (s : State) : Locked (done k t f s) := locked_answer ..

@[simp] theorem locked_refuse (k t : Byte) (why : Status) (s : State) : Locked (refuse k t why s) := locked_answer ..

@[simp] theorem locked_replyLater (k t : Byte) (s : State) : Locked (replyLater k t s) := .inr (by simp [replyLater])

theorem refuse_steady (k t : Byte) (why : Status) (s : State) : Steady Locked s (refuse k t why s) :=
  (refuse_ordinary k t why s).steady fun _ => locked_refuse ..

theorem cutFrame_steady (s : State) : Steady Locked s (cutFrame s) := by
  have h : Steady Locked s { s with clk := { s.clk with rx := .idle } } := setClk_steady rfl rfl id
  unfold cutFrame
  dsimp only
  split
  · split
    · exact h
    · exact h.trans (unlessPending_steady fun _ => refuse_steady ..)
  · exact h

@[simp] theorem post_reply (n : Notice) (s : State) : (post n s).clk.reply = s.clk.reply := by
  unfold post
  split <;> rfl

@[simp] theorem post_rcv (n : Notice) (s : State) : (post n s).rcv = s.rcv := by
  unfold post
  split <;> rfl

theorem postReprint_reply (s : State) : (postReprint s).clk.reply = s.clk.reply := by
  unfold postReprint
  split
  · simp
  · rfl

theorem finish_steady (s : State) : Steady Locked s (finish s) :=
  (finish_ordinary s).steady fun h => by
    unfold Locked finish
    rw [postReprint_rcv, postReprint_reply]
    exact h

/-- A jam event leaves the reply. -/
theorem raiseJam_reply (c : JamCause) (as : List Nat) (s : State) : (raiseJam c as s).clk.reply = s.clk.reply := by
  unfold raiseJam
  split
  · simp [firstCause, haltZones]
  · simp [firstCause, haltZones]
  · simp [secondFailure, haltZones]
  · split <;> rfl
  all_goals rfl

theorem judgeStay_reply (r : Record) (s : State) : (judgeStay r s).clk.reply = s.clk.reply := by
  unfold judgeStay
  split
  · split
    · exact raiseJam_reply ..
    · rfl
  · rfl

theorem judgeStays_reply (l : List Nat) (s : State) :
    (l.foldl (fun s sheet => withRec sheet judgeStay s) s).clk.reply = s.clk.reply := by
  induction l generalizing s with
  | nil => rfl
  | cons n l ih =>
    rw [List.foldl_cons, ih]
    unfold withRec
    split
    · exact judgeStay_reply ..
    · rfl

theorem locked_performSheet (k t : Byte) (route : Nat) (a : Option Announced) (s : State) : Locked (performSheet k t route a s) := by
  unfold performSheet
  split
  · exact locked_refuse ..
  · split
    · exact locked_refuse ..
    · split
      · exact locked_refuse ..
      · split
        · exact locked_refuse ..
        · split
          · exact locked_refuse ..
          · split
            · exact locked_refuse ..
            · exact locked_done ..

theorem locked_performResume (t : Byte) (s : State) : Locked (performResume t s) := by
  unfold performResume
  split
  · dsimp only
    split
    · exact locked_done ..
    · refine .inr ?_
      unfold resumeRuns
      dsimp only
      rw [judgeStays_reply]
      simp [done, answer]
  · exact locked_refuse ..

/-- Outside CONFIG the map is locked after every request: ARM, GATE and what else CONFIG alone takes is refused, every other request
is answered or is being answered (R180); an event, which is none, leaves the path state. -/
theorem performRequest_locked (i : Instr) {s : State} (h : s.rcv.path ≠ .config) : Locked (performRequest i s) := by
  cases i
  case ident | queryState | queryAreas | queryNodes | queryJam | queryReprint | queryLines | queryStations => exact locked_done ..
  case reset => exact .inr (by simp [performRequest, performReset, done, answer])
  case mapPut | arm | gate | snapAdopt | snapDrop =>
    simp [performRequest, performMapPut, performArm, performGate, performSnapAdopt, performSnapDrop, h]
  case mapGet | disarm | take | lines | abandon | queryZones | querySheet | queryFlight | querySets | querySnapshot =>
    simp only [performRequest, performMapGet, performDisarm, performTake, performLines, performAbandon, performQueryZones,
      performQuerySheet, performQueryFlight, performQuerySets, performQuerySnapshot]
    split
    all_goals simp
  case calibrate =>
    simp only [performRequest, performCalibrate]
    split
    · split <;> simp
    · simp
  case speed =>
    simp only [performRequest, performSpeed]
    split
    · split <;> simp
    · simp
  case sheetS | sheetF => exact locked_performSheet ..
  case resume => exact locked_performResume ..
  all_goals exact .inl h

/-! ### MAP_PUT -/

/-- The map stays in no case. -/
def Never (_ : State) : Prop := False

theorem setMap_steady {m : MapStore} {s : State} (h : s.pms.Sized → m.Sized) : Steady Never s (setMap m s) :=
  ⟨id, fun _ p => p.elim, rfl, fun _ => List.prefix_refl _, fun w => { w with map := h w.map, owed := rfl, ended := rfl }⟩

theorem freshState_ordinary (table first count : Nat) (s : State) : Ordinary s (freshState table first count s) := by
  have hl {α : Type} (f : α → α) (l : List α) {n : Nat} (h : l.length = n) : (mapRange f first count l).length = n :=
    (mapRange_length ..).trans h
  unfold freshState
  split
  · exact ⟨rfl, rfl, rfl, rfl, rfl, rfl, rfl, rfl, List.prefix_refl _,
      fun w => { w with nodes := hl _ _ w.nodes, owed := rfl, ended := rfl }⟩
  · exact ⟨rfl, rfl, rfl, rfl, rfl, rfl, rfl, rfl, List.prefix_refl _,
      fun w => { w with areas := hl _ _ w.areas, owed := rfl, ended := rfl }⟩
  · exact ⟨rfl, rfl, rfl, rfl, rfl, rfl, rfl, rfl, List.prefix_refl _,
      fun w => { w with zones := hl _ _ w.zones, owed := rfl, ended := rfl }⟩
  · exact ⟨rfl, rfl, rfl, rfl, rfl, rfl, rfl, rfl, List.prefix_refl _,
      fun w => { w with gates := hl _ _ w.gates, owed := rfl, ended := rfl }⟩
  · exact .refl s

/-- MAP_PUT with the map left out. -/
theorem performMapPut_never (t : Byte) (table first count : Nat) (body : List Byte) (s : State) :
    Steady Never s (performMapPut t table first count body s) := by
  have h {m : MapStore} (hm : s.pms.Sized → m.Sized) (b c : Nat) (x : Bool) :
      Steady Never s (answer kMAP_PUT t .done x [] (freshState table b c (setMap m s))) :=
    ((setMap_steady hm).trans ((freshState_ordinary ..).steady id)).trans ((answer_ordinary ..).steady id)
  unfold performMapPut
  split
  · exact (refuse_ordinary ..).steady id
  · split
    · exact (answer_ordinary ..).steady id
    · split
      · exact h (clearTable_sized table) ..
      · split
        · exact (answer_ordinary ..).steady id
        · split
          · exact (answer_ordinary ..).steady id
          · exact h (putEntries_sized ‹_›) ..

/-! ### Every request -/

theorem performReset_steady (t : Byte) (s : State) : Steady Locked s (performReset t s) :=
  ((done_ordinary kRESET t [] s).steady fun _ => locked_done ..).trans (setClk_steady rfl rfl id)

/-- The requests that change what `Ordinary` keeps. -/
def rewires : Instr → Bool
  | .mapPut _ _ _ _ _ | .reset _ => true
  | _ => false

theorem performRequest_ordinary {i : Instr} (h : rewires i = false) (s : State) : Ordinary s (performRequest i s) := by
  cases i
  case mapPut | reset => cases h
  case ident | queryState | queryAreas | queryNodes | queryJam | queryReprint | queryLines | queryStations => exact done_ordinary ..
  case mapGet => exact performMapGet_ordinary ..
  case arm => exact performArm_ordinary ..
  case disarm => exact performDisarm_ordinary ..
  case calibrate => exact performCalibrate_ordinary ..
  case speed => exact performSpeed_ordinary ..
  case gate => exact performGate_ordinary ..
  case sheetS | sheetF => exact performSheet_ordinary ..
  case resume => exact performResume_ordinary ..
  case abandon => exact performAbandon_ordinary ..
  case take => exact performTake_ordinary ..
  case lines => exact performLines_ordinary ..
  case snapAdopt => exact performSnapAdopt_ordinary ..
  case snapDrop => exact performSnapDrop_ordinary ..
  case queryZones => exact performQueryZones_ordinary ..
  case querySheet => exact performQuerySheet_ordinary ..
  case queryFlight => exact performQueryFlight_ordinary ..
  case querySets => exact performQuerySets_ordinary ..
  case querySnapshot => exact performQuerySnapshot_ordinary ..
  all_goals exact .refl s

/-- A request performed with no reply pending: only in CONFIG can it write the map. -/
theorem performRequest_steady (i : Instr) {s : State} (h : s.clk.reply = .none) : Steady Locked s (performRequest i s) := by
  have hl (l : Locked s) : s.rcv.path ≠ .config := l.resolve_right (not_not.2 h)
  cases hi : rewires i with
  | false => exact (performRequest_ordinary hi s).steady fun l => performRequest_locked i (hl l)
  | true =>
    cases i
    case reset => exact performReset_steady ..
    case mapPut t table first count body =>
      obtain ⟨h1, -, h3, h4, h5⟩ := performMapPut_never t table first count body s
      refine ⟨h1, fun _ l => ⟨?_, performRequest_locked _ (hl l)⟩, h3, h4, h5⟩
      simp [performRequest, performMapPut, hl l, refuse, answer]
    all_goals cases hi

theorem takeRequest_steady {k t : Byte} {f : State → State} (hf : ∀ {u : State}, u.clk.reply = .none → Steady Locked u (f u))
    (s : State) : Steady Locked s (takeRequest k t f s) := by
  have hc := (hear_steady s).trans (cutFrame_steady _)
  unfold takeRequest
  split
  · dsimp only
    split
    · exact hc
    · exact hc.trans (unlessPending_steady fun h => (hf h).trans (finish_steady _))
  · exact .refl s

/-! ### The receiver -/

theorem setRx_steady (r : Receiver) (s : State) : Steady Locked s (setRx r s) := setClk_steady rfl rfl id

theorem judgeFrame_steady (kind tag len : Byte) (payload : List Byte) (crc : Byte) {s : State} (h : s.clk.reply = .none) :
    Steady Locked s (judgeFrame kind tag len payload crc s) := by
  unfold judgeFrame
  split
  · exact refuse_steady ..
  · split
    · exact refuse_steady ..
    · exact refuse_steady ..
    · exact refuse_steady ..
    · exact performRequest_steady _ h

theorem judge_steady {k t : Byte} {f : State → State} {s : State} (hf : s.clk.reply = .none → Steady Locked s (f s)) :
    Steady Locked s (judge k t f s) := by
  unfold judge
  split
  · exact .refl s
  · exact unlessPending_steady fun h => (hf h).trans (finish_steady _)

theorem frameByte_steady (bs : List Byte) (s : State) : Steady Locked s (frameByte bs s) := by
  unfold frameByte
  split
  · split
    · exact (setRx_steady _ s).trans (judge_steady fun _ => refuse_steady ..)
    · exact setRx_steady ..
  · split
    · exact (setRx_steady _ s).trans (judge_steady fun h => judgeFrame_steady _ _ _ _ _ h)
    · exact setRx_steady ..
  · exact setRx_steady ..

theorem takeChar_steady (s : State) (c : RxChar) : Steady Locked s (takeChar s c) := by
  unfold takeChar
  split
  · exact .refl s
  · split
    · exact (cutFrame_steady s).trans (setRx_steady _ _)
    · split
      · exact frameByte_steady ..
      · exact .refl s

theorem takeChars_steady (cs : List RxChar) (s : State) : Steady Locked s (cs.foldl takeChar (hear s)) :=
  (hear_steady s).trans (.foldl takeChar_steady cs _)

end Sys2Proof.Machine
end

section
namespace Sys2Proof.Machine

/-! ## Resets -/

/-- A reset leaves the rows and the pins; every bank is back at its size (R173). -/
theorem resetPart_within {k : ResetKind} {s : State} (hz : s.zdu.zones.length = 8) (hr : s.spm.rows.length = 64)
    (hp : s.pins.Sized) : Within (resetPart k s) where
  map := by constructor <;> rfl
  pins := hp
  enables := (by constructor <;> decide : Enabled 0x00F 0x040 0x000)
  covers := rfl
  coverCount := rfl
  feedback := rfl
  feedbackRun := rfl
  stationCovers q h := by rw [List.eq_of_mem_replicate h]; rfl
  records := Nat.zero_le _
  distinct := List.nodup_nil
  sets := Nat.zero_le _
  entries := Nat.zero_le _
  notices := Nat.zero_le _
  handOffs q h := by rw [List.eq_of_mem_replicate h]; exact Nat.zero_le _
  cancels q h := by rw [List.eq_of_mem_replicate h]; exact Nat.zero_le _
  nodes := rfl
  zones := by simpa [resetPart] using hz
  gates := rfl
  areas := rfl
  stations := rfl
  rows := hr
  owed := rfl
  ended := rfl

/-- After a reset the part does not run. -/
theorem resetPart_steady (P : State → Prop) (k : ResetKind) (s : State) : Steady P s (resetPart k s) where
  live l := by cases l
  map l := by cases l
  rows := rfl
  notices l := by cases l
  stores w := (within_iff_ended.1 (resetPart_within w.zones w.rows w.pins)).1

theorem resetIfIdle_steady (P : State → Prop) (s : State) : Steady P s (resetIfIdle s) := by
  unfold resetIfIdle
  split
  · split
    · exact resetPart_steady ..
    · exact .refl s
  · exact .refl s

theorem resetDue_steady (t : Trigger) (s : State) : Steady Always s (resetDue t s) := by
  unfold resetDue
  split
  · exact .refl s
  · refine (takeSnapshot_ordinary t s).always.trans (Steady.trans ?_ (resetIfIdle_steady ..))
    exact ⟨id, fun _ _ => ⟨rfl, trivial⟩, rfl, fun _ => List.prefix_refl _, fun w => { w with owed := rfl, ended := rfl }⟩

theorem linkBreak_steady (s : State) : Steady Always s (linkBreak s) := by
  unfold linkBreak
  split
  · have h : Steady Always s { s with clk := { s.clk with breakArmed := false, breakCount := 0, deaf := true } } :=
      setClk_steady rfl rfl id
    exact h.trans (resetDue_steady ..)
  · exact .refl s

/-! ## The transmitter -/

theorem endFrame_steady (s : State) : Steady Always s (endFrame s) := by
  unfold endFrame
  split
  · have h : Steady Always s { s with clk := { s.clk with tx := none } } := setClk_steady rfl rfl id
    dsimp only
    split
    · exact h.trans (resetDue_steady ..)
    · exact h
  · exact .refl s

/-- The frame that begins takes at most the oldest notice (R184), and leaves the enable sets. -/
theorem beginFrame_leaves (c : Clk) : (beginFrame c).notices.length ≤ c.notices.length ∧ (beginFrame c).enHalt = c.enHalt ∧
    (beginFrame c).enAttn = c.enAttn ∧ (beginFrame c).enAux = c.enAux := by
  have hn : (beginNotice c).notices.length ≤ c.notices.length ∧ (beginNotice c).enHalt = c.enHalt ∧
      (beginNotice c).enAttn = c.enAttn ∧ (beginNotice c).enAux = c.enAux := by
    unfold beginNotice
    split
    · rename_i h
      simp [h]
    · simp
  unfold beginFrame
  split
  · unfold beginReply
    dsimp only
    split
    · simp
    · split <;> simp
  · exact hn
  · exact hn

/-- TRANSMIT_END ends a frame and then moves the transmitter alone, which takes no notice in. -/
theorem transmitEnd_eq (s : State) : ∃ c, transmitEnd s = setClk c (endFrame s) ∧
    (Within (ended (endFrame s)) → Within (ended (setClk c (endFrame s)))) := by
  unfold transmitEnd
  dsimp only
  split
  · obtain ⟨hn, h1, h2, h3⟩ := beginFrame_leaves (endFrame s).clk
    exact ⟨_, rfl, fun w => { w with
      enables := by simpa [h1, h2, h3] using w.enables
      notices := hn.trans w.notices, owed := rfl, ended := rfl }⟩
  · exact ⟨(endFrame s).clk, rfl, id⟩

/-! ## Row writes -/

/-- A row write ends in a row of the area, and begins the next (R167). -/
theorem setRows_stores {p : Spm} {s : State} (h : p.rows.length = s.spm.rows.length) (w : Within (ended s)) :
    Within (ended (setSpm p s)) :=
  { w with rows := h.trans w.rows, owed := rfl, ended := rfl }

theorem operationEnds_ordinary (k : OpKind) (s : State) : Ordinary s (operationEnds k s) := by
  unfold operationEnds
  split
  · exact post_ordinary ..
  · exact .refl s
  · exact .refl s
  · exact done_ordinary ..
  · exact done_ordinary ..

theorem releaseDrop_ordinary (s : State) : Ordinary s (releaseDrop s) := by
  unfold releaseDrop
  split
  · split
    · exact .refl s
    · exact dropNow_ordinary ..
  · exact .refl s

theorem afterOperation_steady (s : State) : Steady Always s (afterOperation s) := by
  unfold afterOperation
  split
  · exact resetIfIdle_steady ..
  · exact (releaseDrop_ordinary s).always

/-- The end of a row write: another row, and then what is steady. -/
theorem rowWriteEnd_steady (s : State) : ∃ p, p.rows.length = s.spm.rows.length ∧ Steady Always (setSpm p s) (rowWriteEnd s) := by
  unfold rowWriteEnd
  split
  · dsimp only
    split
    · exact ⟨_, by simp [endWrite], .refl _⟩
    · exact ⟨_, by simp [endWrite], (operationEnds_ordinary _ _).always.trans (afterOperation_steady _)⟩
  · exact ⟨s.spm, rfl, .refl s⟩

/-! ## What every command keeps -/

/-- What a step keeps from `s` to `t`, with the command `o` at the queue's front: the capacities, the map outside CONFIG (R2), the rows
(R167) and the notices that wait (R183). -/
structure Keeps (o : Option Instr) (s t : State) : Prop where
  within : Within s → Within t
  map : s.rcv.path ≠ .config → t.sys.live = true → t.pms = s.pms
  rows : (∀ c, o = some c → writesRows c = false) → t.spm.rows = s.spm.rows
  notices : o ≠ some .transmitEnd → t.sys.live = true → s.clk.notices <+: t.clk.notices

theorem Steady.keeps {P : State → Prop} {o : Option Instr} {s t : State} (h : Steady P s t) (hP : s.rcv.path ≠ .config → P s)
    (q : Settled s → Settled t) : Keeps o s t where
  within w := by
    obtain ⟨we, ws⟩ := within_iff_ended.1 w
    exact within_iff_ended.2 ⟨h.stores we, q ws⟩
  map p l := (h.map l (hP p)).1
  rows _ := h.rows
  notices _ l := h.notices l

/-- A request row performs the request that its frame would carry. -/
theorem exec_request {i : Instr} {x : Byte × Byte × List Byte} (h : encodeRequest i = some x) (s : State) :
    exec i s = .next (takeRequest x.1 x.2.1 (performRequest i) s) := by
  cases i <;> cases h <;> rfl

theorem takeRequest_keeps {o : Option Instr} (k t : Byte) (i : Instr) (s : State) :
    Keeps o s (takeRequest k t (performRequest i) s) :=
  (takeRequest_steady (performRequest_steady i) s).keeps .inl settled_takeRequest

theorem finish_always (s : State) : Steady Always s (finish s) := (finish_ordinary s).always

theorem takeEvent_steady {P : State → Prop} {f : State → State} {s : State} (hf : Steady P s (f s))
    (hP : ∀ u, Steady P u (finish u)) : Steady P s (takeEvent f s) := by
  unfold takeEvent
  split
  · exact hf.trans (hP _)
  · exact .refl s

/-- An event, taken once its pin, or the phase of its pair, has changed. -/
theorem takeEvent_keeps {o : Option Instr} {f : State → State} {s u : State} (hu : Steady Always s u)
    (q : Settled s → Settled u) (hf : Steady Always u (f u)) : Keeps o s (takeEvent f u) :=
  (hu.trans (takeEvent_steady hf finish_always)).keeps (fun _ => trivial) fun h => settled_takeEvent (q h)

/-- An event with no pin of its own. -/
theorem takeEvent_ordinary_keeps {o : Option Instr} {f : State → State} {s : State} (hf : Ordinary s (f s)) :
    Keeps o s (takeEvent f s) :=
  takeEvent_keeps (.refl s) id hf.always

theorem setPins_event_keeps {o : Option Instr} {f : State → State} {s : State} {p : Pins} (h : s.pins.Sized → p.Sized)
    (hf : ∀ u, Ordinary u (f u)) : Keeps o s (takeEvent f { s with pins := p }) :=
  takeEvent_keeps (setPins_steady h id) id (hf _).always

theorem ite_ordinary {p : Prop} [Decidable p] {s t : State} (h : Ordinary s t) : Ordinary s (if p then t else s) := by
  split
  · exact h
  · exact .refl s

theorem transmitEnd_keeps (s : State) : Keeps (some .transmitEnd) s (takeEvent transmitEnd s) := by
  obtain ⟨c, e, hc⟩ := transmitEnd_eq s
  have h := endFrame_steady s
  have f := finish_ordinary (setClk c (endFrame s))
  unfold takeEvent
  split
  · rw [e]
    exact {
      within := fun w => finish_within (hc (h.stores (within_iff_ended.1 w).1))
      map := fun _ l => f.pms.trans (h.map (f.sys ▸ l) trivial).1
      rows := fun _ => f.rows.trans h.rows
      notices := fun n => absurd rfl n }
  · exact (Steady.refl (P := Always) s).keeps (fun _ => trivial) id

theorem rowWriteEnd_keeps (s : State) : Keeps (some .rowWriteEnd) s (takeEvent rowWriteEnd s) := by
  obtain ⟨p, hp, h⟩ := rowWriteEnd_steady s
  have f := finish_always (rowWriteEnd s)
  unfold takeEvent
  split
  · exact {
      within := fun w => finish_within (h.stores (setRows_stores hp (within_iff_ended.1 w).1))
      map := fun _ l => ((h.trans f).map l trivial).1
      rows := fun n => absurd (n _ rfl) (by decide)
      notices := fun _ l => (h.trans f).notices l }
  · exact (Steady.refl (P := Always) s).keeps (fun _ => trivial) id

theorem cutWrites_rows_length (p : Spm) : (cutWrites p).rows.length = p.rows.length := by
  unfold cutWrites
  split <;> simp

theorem hardReset_keeps {i : Instr} (h : writesRows i = true) (k : ResetKind) (s : State) : Keeps (some i) s (hardReset k s) where
  within w := resetPart_within w.zones ((cutWrites_rows_length s.spm).trans w.rows) w.pins
  map _ l := by cases l
  rows n := by simp [n i rfl] at h
  notices _ l := by cases l

theorem start_keeps {o : Option Instr} (a b kept : Bool) (s : State) :
    Keeps o s (if s.sys.live then s else startPart a b kept s) := by
  split
  · exact (Steady.refl (P := Always) s).keeps (fun _ => trivial) id
  · let u : State := { s with
      sfe := { s.sfe with covers := s.pins.covers, feedback := s.pins.feedback }
      spm := { s.spm with marker := markerComplete s.spm, pendingMark := markerComplete s.spm }
      clk := { s.clk with rate := rateOf a b, breakArmed := s.pins.rxHigh }
      sys := { s.sys with live := true, cause := causeOf s.sys.kind kept } }
    have h := post_ordinary (.start (causeOf s.sys.kind kept) (rateOf a b) (pendingHeader u.spm)) u
    have hr : (startPart a b kept s).rpq = s.rpq := by
      unfold startPart post
      dsimp only
      split <;> rfl
    have hm : (startPart a b kept s).rcv = s.rcv := post_rcv ..
    exact {
      within := fun w => within_iff_ended.2 ⟨h.stores { w with
        covers := w.pins.covers, feedback := w.pins.feedback, owed := rfl, ended := rfl },
        ⟨(congrArg Rpq.touched hr).trans w.owed, (congrArg (fun r => r.moment.underway) hm).trans w.ended⟩⟩
      map := fun _ _ => h.pms
      rows := fun _ => h.rows
      notices := fun _ _ => h.notices }

theorem presenceEvent_keeps {o : Option Instr} {f : State → State} {s : State} {k : Nat} {v : Bool} (hf : ∀ u, Ordinary u (f u)) :
    Keeps o s (takeEvent f (if isStation k then setPresencePin k v s else s)) := by
  split
  · exact setPins_event_keeps (fun w => { w with presence := by simpa using w.presence }) hf
  · exact takeEvent_ordinary_keeps (hf s)

/-- Every command answers a next state, and keeps what every step keeps. -/
theorem exec_keeps (i : Instr) (s : State) : ∃ t, exec i s = .next t ∧ Keeps (some i) s t := by
  cases hx : encodeRequest i with
  | some x => exact ⟨_, exec_request hx s, takeRequest_keeps ..⟩
  | none =>
    cases i
    case requestFrame cs =>
      exact ⟨_, rfl, (takeEvent_steady (takeChars_steady cs s) finish_steady).keeps .inl settled_takeEvent⟩
    case frameGap => exact ⟨_, rfl, (takeEvent_steady (cutFrame_steady s) finish_steady).keeps .inl settled_takeEvent⟩
    case transmitEnd => exact ⟨_, rfl, transmitEnd_keeps s⟩
    case linkBreak =>
      exact ⟨_, rfl, takeEvent_keeps (setPins_steady (fun w => { w with }) id) id (linkBreak_steady _)⟩
    case sensorEdge line x y =>
      exact ⟨_, rfl, setPins_event_keeps (fun w => { w with sensors := by simpa using w.sensors }) fun u =>
        (takeSample_ordinary _ _ u).trans (takeSample_ordinary _ _ _)⟩
    case baselineTrack => exact ⟨_, rfl, takeEvent_ordinary_keeps (.foldl trackNode_ordinary _ s)⟩
    case calibrateEnd =>
      refine ⟨_, rfl, takeEvent_ordinary_keeps ?_⟩
      split
      · exact endCalibration_ordinary ..
      · exact .refl s
    case coverEvent =>
      exact ⟨_, rfl, setPins_event_keeps (fun w => { w with covers := by simpa using w.covers }) fun u =>
        ite_ordinary (coverFlips_ordinary _ _ u)⟩
    case gateFeedback =>
      exact ⟨_, rfl, setPins_event_keeps (fun w => { w with feedback := by simpa using w.feedback }) fun u =>
        ite_ordinary (feedbackFlips_ordinary _ _ u)⟩
    case gateSwitchTimeout =>
      refine ⟨_, rfl, takeEvent_ordinary_keeps ?_⟩
      split
      · exact ite_ordinary (failSwitch_ordinary ..)
      · exact .refl s
    case encoderEdge =>
      refine ⟨_, rfl, takeEvent_keeps (setZone_ordinary _ _ s).always id (Ordinary.always ?_)⟩
      generalize turnPhase _ _ s = u
      split
      · exact countEdge_ordinary ..
      · exact .refl _
    case invalidStep =>
      exact ⟨_, rfl, takeEvent_keeps (setZone_ordinary _ _ s).always id (ite_ordinary (setZone_ordinary ..)).always⟩
    case stall =>
      refine ⟨_, rfl, takeEvent_ordinary_keeps ?_⟩
      split
      · exact ite_ordinary ((setZone_ordinary _ _ s).trans (handStall_ordinary _ _ _))
      · exact .refl s
    case standstill => exact ⟨_, rfl, takeEvent_ordinary_keeps (ite_ordinary (takeStandstill_ordinary s))⟩
    case lateTime =>
      refine ⟨_, rfl, takeEvent_ordinary_keeps (withRec_ordinary (fun r s => ?_) _ s)⟩
      split
      · exact lateTime_ordinary ..
      · exact .refl s
    case stay =>
      refine ⟨_, rfl, takeEvent_ordinary_keeps (withRec_ordinary (fun r s => ?_) _ s)⟩
      split
      · exact stayTime_ordinary ..
      · exact .refl s
    case repick =>
      refine ⟨_, rfl, takeEvent_ordinary_keeps (withRec_ordinary (fun r s => ?_) _ s)⟩
      split
      · exact ite_ordinary (firstExpiry_ordinary ..)
      · exact .refl s
    case misfeed =>
      refine ⟨_, rfl, takeEvent_ordinary_keeps (withRec_ordinary (fun r s => ?_) _ s)⟩
      split
      · exact ite_ordinary (secondExpiry_ordinary ..)
      · exact .refl s
    case remoteLate =>
      refine ⟨_, rfl, takeEvent_ordinary_keeps (withRec_ordinary (fun r s => ?_) _ s)⟩
      split
      · exact remoteLate_ordinary ..
      · exact .refl s
    case areaCheck => exact ⟨_, rfl, takeEvent_ordinary_keeps (ite_ordinary (concludeCheck_ordinary _ s))⟩
    case immediateCheck =>
      refine ⟨_, rfl, takeEvent_ordinary_keeps (ite_ordinary ?_)⟩
      exact (setDue_ordinary _ s).trans (ite_ordinary (concludeCheck_ordinary ..))
    case pollSlot => exact ⟨_, rfl, takeEvent_ordinary_keeps (startSlot_ordinary s)⟩
    case stationReply => exact ⟨_, rfl, takeEvent_ordinary_keeps (takeFrame_ordinary _ _ s)⟩
    case badReply | pollMiss => exact ⟨_, rfl, takeEvent_ordinary_keeps (endExchange_ordinary s)⟩
    case stationPresent k =>
      exact ⟨_, rfl, presenceEvent_keeps (fun u => ite_ordinary (becomePresent_ordinary _ u))⟩
    case stationAbsent k =>
      exact ⟨_, rfl, presenceEvent_keeps (fun u => ite_ordinary (becomeAbsent_ordinary _ u))⟩
    case supplyWarn =>
      refine ⟨_, rfl, setPins_event_keeps (fun w => { w with }) fun u => ?_⟩
      split
      · exact .refl u
      · exact becomeWarn_ordinary u
    case supplyNormal =>
      exact ⟨_, rfl, setPins_event_keeps (fun w => { w with }) fun u => ite_ordinary (becomeNormal_ordinary u)⟩
    case rowWriteEnd => exact ⟨_, rfl, rowWriteEnd_keeps s⟩
    case brownOut | externalReset => exact ⟨_, rfl, hardReset_keeps rfl _ s⟩
    case start => exact ⟨_, rfl, start_keeps ..⟩
    all_goals cases hx

end Sys2Proof.Machine
end

section
namespace Sys2Proof.Machine

/-! ## A millisecond -/

/-- What a part of a millisecond keeps: what is steady, and that no command is half done. -/
structure Timed (s t : State) : Prop where
  steady : Steady Always s t
  settled : Settled s → Settled t

namespace Timed

theorem refl (s : State) : Timed s s := ⟨.refl s, id⟩

theorem trans {s t u : State} (h : Timed s t) (k : Timed t u) : Timed s u :=
  ⟨h.steady.trans k.steady, fun q => k.settled (h.settled q)⟩

/-- `trans` with the last operation first. -/
theorem after {s t u : State} (k : Timed t u) (h : Timed s t) : Timed s u := h.trans k

theorem foldl {α : Type} {f : State → α → State} (h : ∀ s x, Timed s (f s x)) (l : List α) (s : State) : Timed s (l.foldl f s) := by
  induction l generalizing s with
  | nil => exact refl s
  | cons x xs ih => exact (h s x).trans (ih _)

end Timed

theorem Ordinary.timed {s t : State} (h : Ordinary s t) (q : Settled s → Settled t) : Timed s t := ⟨h.always, q⟩

theorem enqueue_timed (i : Instr) (s : State) : Timed s (enqueue i s) :=
  ⟨⟨id, fun _ _ => ⟨rfl, trivial⟩, rfl, fun _ => List.prefix_refl _, fun w => { w with owed := rfl, ended := rfl }⟩, id⟩

theorem enqueueIf_timed (b : Bool) (i : Instr) (s : State) : Timed s (enqueueIf b i s) := by
  unfold enqueueIf
  split
  · exact enqueue_timed i s
  · exact .refl s

theorem tickClock_timed (s : State) : Timed s (tickClock s) :=
  ⟨⟨id, fun _ _ => ⟨rfl, trivial⟩, rfl, fun _ => List.prefix_refl _, fun w => { w with owed := rfl, ended := rfl }⟩,
    fun q => ⟨q.1, rfl⟩⟩

theorem tickSensor_timed (s : State) (line : Nat) : Timed s (tickSensor s line) := by
  have hc (v : Option Calibration) : Timed s (setCalib v s) := (setCalib_ordinary v s).timed id
  unfold tickSensor
  dsimp only
  split
  · exact (hc _).trans (enqueue_timed _ _)
  · split
    · exact (hc _).trans ((setNode_ordinary _ _ _).timed id)
    · exact hc _

theorem tickCalibration_timed (s : State) : Timed s (tickCalibration s) := by
  unfold tickCalibration
  split
  · exact (enqueueIf_timed ..).after ((setCalib_ordinary _ s).timed id)
  · exact .refl s

theorem tickCover_timed (s : State) (l : Nat) : Timed s (tickCover s l) := by
  have h (v : Nat) : Timed s { s with sfe := { s.sfe with coverCount := s.sfe.coverCount.set l v } } :=
    ⟨⟨id, fun _ _ => ⟨rfl, trivial⟩, rfl, fun _ => List.prefix_refl _,
      fun w => { w with coverCount := by simpa using w.coverCount, owed := rfl, ended := rfl }⟩, id⟩
  unfold tickCover
  dsimp only
  split
  · exact h 0
  · split
    · exact (h 0).trans (enqueue_timed ..)
    · exact h _

theorem tickFeedback_timed (s : State) (l : Nat) : Timed s (tickFeedback s l) := by
  have h (v : Nat) : Timed s { s with sfe := { s.sfe with feedbackRun := s.sfe.feedbackRun.set l v } } :=
    ⟨⟨id, fun _ _ => ⟨rfl, trivial⟩, rfl, fun _ => List.prefix_refl _,
      fun w => { w with feedbackRun := by simpa using w.feedbackRun, owed := rfl, ended := rfl }⟩, id⟩
  unfold tickFeedback
  dsimp only
  split
  · exact h 0
  · split
    · exact (h 0).trans (enqueue_timed ..)
    · exact h 1

theorem tickZone_timed (s : State) (z : Nat) : Timed s (tickZone s z) := by
  unfold tickZone
  split
  · dsimp only
    split
    · exact .refl s
    · exact ((setZone_ordinary _ _ s).timed id).trans (enqueueIf_timed ..)
  · exact .refl s

theorem tickGate_timed (s : State) (g : Nat) : Timed s (tickGate s g) := by
  unfold tickGate
  split
  · split
    · exact ((setGate_ordinary _ _ s).timed id).trans (enqueueIf_timed ..)
    · exact .refl s
  · exact .refl s

theorem tickRecord_timed (s : State) (n : Nat) : Timed s (tickRecord s n) := by
  unfold tickRecord withRec
  split
  · dsimp only
    generalize Option.map _ (Record.leadExp _) = lead
    generalize Option.map _ (Record.trailExp _) = trail
    generalize hp : putRec _ s = u
    have hu : Timed s u := hp ▸ (putRec_ordinary _ s).timed id
    rcases trail with - | e
    swap
    refine (enqueueIf_timed ..).after ?_
    all_goals
      cases lead with
      | none => exact hu
      | some e =>
        dsimp only
        split
        · split
          · exact hu.trans (enqueue_timed ..)
          · exact hu
        · exact hu
  · exact .refl s

theorem tickArea_timed (s : State) (a : Nat) : Timed s (tickArea s a) := by
  unfold tickArea
  dsimp only
  split
  · exact ((setArea_ordinary _ _ s).timed id).trans (enqueueIf_timed ..)
  · exact .refl s

theorem tickStation_timed (s : State) (k : Nat) : Timed s (tickStation s k) := by
  have h {v : StationState} (hv : (v.handOffs, v.cancels, v.covers) =
      ((stationAt s k).handOffs, (stationAt s k).cancels, (stationAt s k).covers)) : Timed s (setStation k v s) := by
    simp only [Prod.mk.injEq] at hv
    obtain ⟨h1, h2, h3⟩ := hv
    exact (setStation_ordinary (by simp [h1]) (by simp [h2]) (by simp [h3])).timed id
  unfold tickStation
  dsimp only
  generalize hq : (if (stationAt s k).link = .lost then _ else _ : StationState) = q
  have hq : (q.handOffs, q.cancels, q.covers) = ((stationAt s k).handOffs, (stationAt s k).cancels, (stationAt s k).covers) := by
    rw [← hq]
    split <;> rfl
  split
  · exact h hq
  · split
    · exact (enqueue_timed ..).after (h hq)
    · exact h hq

theorem tickSlot_timed (s : State) : Timed s (tickSlot s) := by
  have h (n : Nat) : Timed s { s with xlm := { s.xlm with slot := n } } :=
    ⟨⟨id, fun _ _ => ⟨rfl, trivial⟩, rfl, fun _ => List.prefix_refl _, fun w => { w with owed := rfl, ended := rfl }⟩, id⟩
  unfold tickSlot
  dsimp only
  split
  · exact ((h _).trans (enqueueIf_timed ..)).trans (enqueue_timed ..)
  · exact h _

theorem tickSupply_timed (s : State) : Timed s (tickSupply s) := by
  have hr (n : Nat) : Ordinary s (setSpm { s.spm with recTimer := n } s) := setSpm_ordinary rfl
  have hw (n : Nat) : Ordinary s (setSpm { s.spm with warnTimer := n } s) := setSpm_ordinary rfl
  unfold tickSupply
  dsimp only
  split
  · generalize (if s.pins.supplyLow then 0 else s.spm.recTimer + 1) = n
    split
    · exact (enqueue_timed ..).after ((hr 0).timed id)
    · exact (hr n).timed id
  · generalize (if s.pins.supplyLow then s.spm.warnTimer + 1 else 0) = n
    split
    · exact (enqueue_timed ..).after ((hw 0).timed id)
    · exact (hw n).timed id

theorem tickRows_timed (s : State) : Timed s (tickRows s) := by
  have h : Ordinary s (setSpm { s.spm with elapsed := s.spm.elapsed + 10 } s) := setSpm_ordinary rfl
  unfold tickRows
  split
  · exact .refl s
  · exact (h.timed id).trans (enqueueIf_timed ..)

theorem tickLink_timed (s : State) : Timed s (tickLink s) := by
  have h (r : Receiver) : Timed s { s with clk := { s.clk with rx := r } } := ⟨setClk_steady rfl rfl id, id⟩
  unfold tickLink
  dsimp only
  split
  · exact (h _).trans (enqueueIf_timed ..)
  · exact .refl s

theorem tickBreak_timed (s : State) : Timed s (tickBreak s) := by
  have h (b : Bool) (n : Nat) : Timed s { s with clk := { s.clk with breakArmed := b, breakCount := n } } :=
    ⟨setClk_steady rfl rfl id, id⟩
  unfold tickBreak
  split
  · exact h true 0
  · split
    · exact (h _ _).trans (enqueueIf_timed ..)
    · exact .refl s

theorem passMs_timed (s : State) : Timed s (passMs s) := by
  unfold passMs
  dsimp only
  refine Timed.trans ?_ (tickBreak_timed _)
  refine Timed.trans ?_ (tickLink_timed _)
  refine Timed.trans ?_ (tickRows_timed _)
  refine Timed.trans ?_ (tickSupply_timed _)
  refine Timed.trans ?_ (tickSlot_timed _)
  refine Timed.trans ?_ (.foldl tickStation_timed _ _)
  refine Timed.trans ?_ (.foldl tickArea_timed _ _)
  refine Timed.trans ?_ (.foldl tickRecord_timed _ _)
  refine Timed.trans ?_ (.foldl tickGate_timed _ _)
  refine Timed.trans ?_ (.foldl tickZone_timed _ _)
  refine Timed.trans ?_ (.foldl tickFeedback_timed _ _)
  refine Timed.trans ?_ (.foldl tickCover_timed _ _)
  refine Timed.trans ?_ (enqueueIf_timed ..)
  refine Timed.trans ?_ (tickCalibration_timed _)
  exact (tickClock_timed s).trans (.foldl tickSensor_timed _ _)

theorem idle_timed (s : State) : Timed s (idle s) := by
  have h (is : List Instr) : Timed s { s with pending := s.pending ++ is } :=
    ⟨⟨id, fun _ _ => ⟨rfl, trivial⟩, rfl, fun _ => List.prefix_refl _, fun w => { w with owed := rfl, ended := rfl }⟩, id⟩
  unfold idle
  split
  · split
    · exact passMs_timed s
    · exact h _
  · exact .refl s

/-! ## Every step -/

/-- Every step keeps what `Keeps` lists, with the command at the queue's front. -/
theorem step_keeps {s t : State} (h : step s = .next t) : Keeps s.pending.head? s t := by
  unfold step at h
  split at h
  · rename_i i rest hp
    obtain ⟨u, hu, k⟩ := exec_keeps i { s with pending := rest }
    obtain rfl := Host.Outcome.next.inj (hu.symm.trans h)
    rw [hp]
    exact { k with within := fun w => k.within { w with } }
  · cases h
    exact (idle_timed s).steady.keeps (fun _ => trivial) (idle_timed s).settled

/-- Settles O58: every command's operation keeps the stores within their capacities, and a millisecond moves timers only. -/
theorem capacitiesKept : Obligations.CapacitiesKept :=
  fun _ _ w h => (step_keeps h).within w

/-- Settles O60: MAP_PUT alone writes the map and is refused outside CONFIG, also behind other frames of one REQUEST_FRAME, where a
reply is pending by then; rows are written by ROW_WRITE_END and cut by the hard resets; and notices are posted at the tail. -/
theorem stepsLeaveAlone : Obligations.StepsLeaveAlone :=
  fun _ _ h => ⟨(step_keeps h).map, (step_keeps h).rows, (step_keeps h).notices⟩

end Sys2Proof.Machine
end

section
/-! SUPPORT. What reset leaves: the banks hold their reset entry at every index, inside the bank and
past it (R1, R18, R34, R42, R121, R153). -/

namespace Sys2Proof.Machine

theorem entryAt_replicate_none {α : Type} (n i : Nat) : entryAt (List.replicate n (none : Option α)) i = none := by
  by_cases h : i < n <;> simp [entryAt, h]

/-- Settles O3: each bank of the reset state is a replicate of its reset entry; the rest of the fields are read off. -/
theorem resetValues : Obligations.ResetValues := by
  unfold Obligations.ResetValues
  have node (n : Nat) : nodeAt State.reset n = NodeState.reset := List.getElem?_getD_replicate_default_eq _ 32 n
  have zone (z : Nat) : zoneAt State.reset z = ZoneState.reset 0 := List.getElem?_getD_replicate_default_eq _ 8 z
  have gate (g : Nat) : gateAt State.reset g = GateState.reset := List.getElem?_getD_replicate_default_eq _ 6 g
  have area (a : Nat) : areaAt State.reset a = AreaState.reset := List.getElem?_getD_replicate_default_eq _ 12 a
  have station (k : Nat) : stationAt State.reset k = StationState.reset := List.getElem?_getD_replicate_default_eq _ 3 (k - 1)
  simp only [node, zone, gate, area, station]
  refine ⟨rfl, rfl, rfl, rfl, rfl, ?_, ?_⟩
  · exact fun _ => ⟨entryAt_replicate_none _ _, entryAt_replicate_none _ _, entryAt_replicate_none _ _, entryAt_replicate_none _ _,
      entryAt_replicate_none _ _, entryAt_replicate_none _ _, entryAt_replicate_none _ _⟩
  · exact ⟨fun _ => ⟨rfl, rfl, rfl, rfl⟩, fun _ => ⟨rfl, rfl, rfl, rfl, rfl⟩, fun _ => ⟨rfl, rfl, rfl⟩, rfl, rfl, fun _ => rfl,
      rfl, rfl, rfl, rfl, rfl, fun _ => ⟨rfl, rfl, rfl⟩, rfl, rfl, rfl, rfl, rfl, rfl, rfl, rfl, rfl, rfl⟩

end Sys2Proof.Machine
end

section
/-! SUPPORT. The layouts of the map entries (R189): each decoder reads exactly what its encoder spells of a valid entry (`Codec`). -/

namespace Sys2Proof.Machine

/-! ## Bytes and fields -/

@[simp] theorem u8_toNat (b : Byte) : u8 b.toNat = [b] := by simp [u8]

@[simp] theorem u16_be16 (hi lo : Byte) : u16 (be16 hi lo) = [hi, lo] := by
  have h := hi.isLt
  have l := lo.isLt
  have h1 : be16 hi lo / 256 = hi.toNat := by unfold be16; omega
  have h2 : BitVec.ofNat 8 (be16 hi lo) = lo := by
    apply BitVec.eq_of_toNat_eq
    simp only [be16, BitVec.toNat_ofNat]
    omega
  simp [u16, h1, h2]

theorem toNat_byte {n : Nat} (h : n < 256) : (BitVec.ofNat 8 n).toNat = n := by simp; omega

theorem be16_word {n : Nat} (h : n < 65536) : be16 (BitVec.ofNat 8 (n / 256)) (BitVec.ofNat 8 n) = n := by
  simp only [be16, BitVec.toNat_ofNat]
  omega

theorem within_eq_some {lo hi n m : Nat} : within lo hi n = some m ↔ n = m ∧ lo ≤ m ∧ m ≤ hi := by
  unfold within
  split
  · constructor
    · rintro ⟨⟩; exact ⟨rfl, ‹_›⟩
    · rintro ⟨rfl, -⟩; rfl
  · constructor
    · rintro ⟨⟩
    · rintro ⟨rfl, h⟩; contradiction

theorem within_self {lo hi n : Nat} (h : lo ≤ n) (k : n ≤ hi) : within lo hi n = some n := within_eq_some.2 ⟨rfl, h, k⟩

theorem boolOf_eq_some {n : Nat} {b : Bool} : boolOf n = some b ↔ n = boolNat b := by
  unfold boolOf boolNat
  split <;> cases b <;> simp_all

theorem flag8_eq (b : Bool) : flag8 b = u8 (boolNat b) := by cases b <;> rfl

theorem byteOfNat_eq {n : Nat} (h : n < 256) {b : Byte} : BitVec.ofNat 8 n = b ↔ b.toNat = n := by
  constructor
  · rintro rfl
    exact toNat_byte h
  · rintro rfl
    simp

theorem opt8_byte (o : Option Nat) : ∃ b, opt8 o = [b] := by
  cases o with
  | none => exact ⟨_, rfl⟩
  | some n => exact ⟨_, rfl⟩

/-- A one-byte field that entries of some kinds carry (R3, R189). -/
theorem carried8_eq_some {α : Type} {c : Bool} {b : Byte} {f : Nat → Option α} {o : Option α} :
    carried8 c b f = some o ↔ if c then ∃ a, f b.toNat = some a ∧ o = some a else b = 0xFF ∧ o = none := by
  unfold carried8
  cases c
  · by_cases h : b = 0xFF <;> simp [h, eq_comm]
  · simp [eq_comm]

theorem carried16_eq_some {α : Type} {c : Bool} {h l : Byte} {f : Nat → Option α} {o : Option α} :
    carried16 c h l f = some o ↔ if c then ∃ a, f (be16 h l) = some a ∧ o = some a else be16 h l = 0xFFFF ∧ o = none := by
  unfold carried16
  cases c
  · by_cases k : be16 h l = 0xFFFF <;> simp [k, eq_comm]
  · simp [eq_comm]

theorem carried8_within {c : Bool} {b : Byte} {lo hi : Nat} (h : hi < 256) {o : Option Nat} :
    carried8 c b (within lo hi) = some o ↔ o.isSome = c ∧ opt8 o = [b] ∧ ∀ x ∈ o, lo ≤ x ∧ x ≤ hi := by
  rw [carried8_eq_some]
  cases c <;> cases o with
  | none => simp [opt8, eq_comm]
  | some x =>
    simp only [within_eq_some, opt8]
    constructor
    · simp +contextual
    · rintro ⟨k, hb, hx⟩
      have hx := hx x rfl
      have hn : b.toNat = x := (byteOfNat_eq (by omega)).1 (List.head_eq_of_cons_eq hb)
      simp_all

theorem carried8_bool {c : Bool} {b : Byte} {o : Option Bool} :
    carried8 c b boolOf = some o ↔ o.isSome = c ∧ opt8 (o.map boolNat) = [b] := by
  rw [carried8_eq_some]
  have hl (v : Bool) : boolNat v < 256 := by cases v <;> decide
  cases c <;> cases o with
  | none => simp [opt8, eq_comm]
  | some x => simp [boolOf_eq_some, opt8, u8, byteOfNat_eq (hl x)]

theorem be16_inj {n : Nat} (hn : n < 65536) {h l : Byte} (k : u16 n = [h, l]) : be16 h l = n := by
  unfold u16 at k
  obtain ⟨rfl, rfl⟩ : _ ∧ _ := by simpa using k
  exact be16_word hn

theorem be16_absent {h l : Byte} : be16 h l = 0xFFFF ↔ h = 0xFF ∧ l = 0xFF := by
  have := h.isLt
  have := l.isLt
  simp only [be16, ← BitVec.toNat_inj, BitVec.reduceToNat]
  omega

theorem carried16_within {c : Bool} {h l : Byte} {lo hi : Nat} (hb : hi < 65536) {o : Option Nat} :
    carried16 c h l (within lo hi) = some o ↔ o.isSome = c ∧ opt16 o = [h, l] ∧ ∀ x ∈ o, lo ≤ x ∧ x ≤ hi := by
  rw [carried16_eq_some]
  cases c <;> cases o with
  | none => simp [opt16, be16_absent, eq_comm (a := h), eq_comm (a := l)]
  | some x =>
    simp only [within_eq_some, opt16]
    constructor
    · simp +contextual
    · rintro ⟨k, hw, hx⟩
      have hx := hx x rfl
      have hn : be16 h l = x := be16_inj (by omega) hw
      simp_all

/-- `decode` reads the bytes that `encode` spells of a valid entry, `width` of them, and nothing else. -/
structure Codec {α : Type} (decode : List Byte → Option α) (encode : α → List Byte) (valid : α → Prop) (width : Nat) : Prop where
  reads : ∀ e, valid e → decode (encode e) = some e
  width : ∀ e, valid e → (encode e).length = width
  spelled : ∀ x e, decode x = some e → valid e ∧ encode e = x

theorem zone_codec : Codec decodeZone encodeZone ZoneEntry.Valid 10 where
  reads e h := by
    obtain ⟨h1, h2, h3, h4, h5⟩ := h
    simp (disch := omega) [encodeZone, u16, decodeZone, be16_word, within_self, *]
  width e _ := by simp [encodeZone, u16]
  spelled x e h := by
    unfold decodeZone at h
    split at h
    · simp only [Option.bind_eq_bind, Option.bind_eq_some_iff, within_eq_some, Option.pure_def, Option.some.injEq] at h
      obtain ⟨_, ⟨rfl, a⟩, _, ⟨rfl, b⟩, _, ⟨rfl, c⟩, _, ⟨rfl, d⟩, _, ⟨rfl, f⟩, rfl⟩ := h
      exact ⟨⟨a, b, c, d, f⟩, by simp [encodeZone]⟩
    · cases h

theorem media_codec : Codec decodeMedia encodeMedia MediaEntry.Valid 7 where
  reads e h := by
    obtain ⟨h1, h2, h3, h4⟩ := h
    have hb : boolOf (boolNat e.duplex) = some e.duplex := boolOf_eq_some.2 rfl
    have hl : boolNat e.duplex < 256 := by cases e.duplex <;> decide
    simp (disch := omega) [encodeMedia, u16, u8, flag8_eq, decodeMedia, be16_word, Nat.mod_eq_of_lt, within_self, *]
  width e _ := by simp [encodeMedia, u16, u8, flag8_eq]
  spelled x e h := by
    unfold decodeMedia at h
    split at h
    · simp only [Option.bind_eq_bind, Option.bind_eq_some_iff, within_eq_some, boolOf_eq_some, Option.pure_def,
        Option.some.injEq] at h
      obtain ⟨_, ⟨rfl, a⟩, _, ⟨rfl, b⟩, _, ⟨rfl, c⟩, _, ⟨rfl, d⟩, _, f, rfl⟩ := h
      exact ⟨⟨a, b.2, c, d.2⟩, by simp [encodeMedia, flag8_eq, ← f]⟩
    · cases h

theorem gate_codec : Codec decodeGate encodeGate GateEntry.Valid 8 where
  reads e h := by
    obtain ⟨h1, ⟨h2, h3, h4⟩, ⟨h5, h6, h7⟩, h8, h9⟩ := h
    simp (disch := omega) [encodeGate, u16, u8, decodeGate, be16_word, Nat.mod_eq_of_lt, within_self, *]
  width e _ := by simp [encodeGate, u16, u8]
  spelled x e h := by
    unfold decodeGate at h
    split at h
    · simp only [Option.bind_eq_bind, Option.bind_eq_some_iff, within_eq_some, Option.pure_def, Option.ite_none_left_eq_some,
        Option.some.injEq] at h
      obtain ⟨_, ⟨rfl, a⟩, _, ⟨rfl, b⟩, _, ⟨rfl, c⟩, d, _, ⟨rfl, f⟩, _, ⟨rfl, g⟩, _, ⟨rfl, i⟩, _,
        ⟨rfl, j⟩, rfl⟩ := h
      exact ⟨⟨a.2, ⟨b.2, c.2, d⟩, ⟨f.1, f.2, g.2⟩, i.2, j.2⟩, by simp [encodeGate]⟩
    · cases h

theorem segKindOf_eq_some {n : Nat} {k : SegKind} : segKindOf n = some k ↔ n = k.code := by
  unfold segKindOf SegKind.code
  split <;> cases k <;> simp_all

theorem nodeKindOf_eq_some {n : Nat} {k : NodeKind} : nodeKindOf n = some k ↔ n = k.code := by
  unfold nodeKindOf NodeKind.code
  split <;> cases k <;> simp_all

theorem boolNat_lt (b : Bool) : boolNat b < 256 := by cases b <;> decide

/-- An optional byte is absent exactly when 0xFF stands there, of values below it (R189). -/
theorem opt8_isSome {o : Option Nat} {y : Byte} (h : opt8 o = [y]) (k : ∀ x ∈ o, x < 255) : o.isSome = decide (y ≠ 0xFF) := by
  cases o with
  | none => simp_all [opt8]
  | some x =>
    have hx := k x rfl
    obtain rfl : BitVec.ofNat 8 x = y := List.head_eq_of_cons_eq h
    have absent : BitVec.ofNat 8 x ≠ 0xFF#8 := fun e => by
      have : (0xFF#8).toNat = x := (byteOfNat_eq (by omega)).1 e
      exact absurd this (by simp; omega)
    simp [absent]

theorem opt16_bytes (o : Option Nat) : ∃ h l, opt16 o = [h, l] := by
  cases o with
  | none => exact ⟨_, _, rfl⟩
  | some n => exact ⟨_, _, rfl⟩

theorem seg_codec : Codec decodeSeg encodeSeg SegEntry.Valid 15 where
  reads e h := by
    obtain ⟨⟨h1, h2, h3⟩, h4, ⟨h5, h6⟩, ⟨h7, h8, h9⟩, hp⟩ := h
    have hk : e.kind.code < 256 := by cases e.kind <;> decide
    obtain ⟨y, hy⟩ := opt8_byte e.purgeRoute
    simp only [encodeSeg, u16, u8, flag8_eq, hy, List.cons_append, List.nil_append, decodeSeg, Option.bind_eq_bind,
      Option.bind_eq_some_iff, within_eq_some, boolOf_eq_some, segKindOf_eq_some, Option.pure_def, Option.ite_none_left_eq_some,
      carried8_within (show 15 < 256 by decide), Option.some.injEq]
    refine ⟨e.src, ⟨toNat_byte (by omega), by omega⟩, e.dst, ⟨toNat_byte (by omega), by omega⟩, h3,
      e.len, ⟨be16_word (by omega), h4⟩, e.zone, ⟨toNat_byte (by omega), by omega⟩, e.area, ⟨toNat_byte (by omega), by omega⟩,
      e.kind, toNat_byte hk, e.early, ⟨be16_word (by omega), by omega⟩, e.late, ⟨be16_word (by omega), by omega⟩,
      e.retainOk, toNat_byte (boolNat_lt _), e.loop, toNat_byte (boolNat_lt _), e.purgeRoute,
      ⟨opt8_isSome hy fun p k => Nat.lt_of_le_of_lt (hp p k) (by decide), hy, fun p k => ⟨Nat.zero_le p, hp p k⟩⟩, ?_⟩
    rw [toNat_byte (by omega)]
  width e _ := by
    obtain ⟨y, hy⟩ := opt8_byte e.purgeRoute
    simp [encodeSeg, u16, u8, flag8_eq, hy]
  spelled x e h := by
    unfold decodeSeg at h
    split at h
    · simp only [Option.bind_eq_bind, Option.bind_eq_some_iff, within_eq_some, boolOf_eq_some, segKindOf_eq_some,
        carried8_within (show 15 < 256 by decide),
        Option.pure_def, Option.ite_none_left_eq_some, Option.some.injEq] at h
      obtain ⟨_, ⟨rfl, a⟩, _, ⟨rfl, b⟩, c, _, ⟨rfl, d⟩, _, ⟨rfl, f⟩, _, ⟨rfl, g⟩, _, i, _, ⟨rfl, j⟩, _,
        ⟨rfl, k⟩, _, l, _, m, _, ⟨-, n, o⟩, rfl⟩ := h
      refine ⟨⟨⟨a.2, b.2, c⟩, d, ⟨f.2, g.2⟩, ⟨j.2, k.2, ?_⟩, fun p hp => (o p hp).2⟩, ?_⟩
      · exact Nat.le_of_lt_succ (BitVec.isLt _)
      · simp [encodeSeg, flag8_eq, ← i, ← l, ← m, n]
    · cases h

theorem area_codec : Codec decodeArea encodeArea AreaEntry.Valid 4 where
  reads e h := by
    obtain ⟨source, rank⟩ := e
    obtain ⟨hr, hs⟩ := h
    dsimp only at hr
    cases source with
    | line l =>
      dsimp only at hs
      simp (disch := omega) [encodeArea, encodeSource, u8, decodeArea, Nat.mod_eq_of_lt, within_self]
    | station k c =>
      obtain ⟨h1, h3, hc⟩ := hs
      simp (disch := omega) [encodeArea, encodeSource, u8, decodeArea, Nat.mod_eq_of_lt, within_self]
    | none => simp (disch := omega) [encodeArea, encodeSource, u8, decodeArea, Nat.mod_eq_of_lt, within_self]
  width e _ := by
    obtain ⟨source, rank⟩ := e
    cases source <;> rfl
  spelled x e h := by
    unfold decodeArea at h
    split at h
    next k x y r =>
      simp only [Option.bind_eq_bind, Option.bind_eq_some_iff, within_eq_some, Option.pure_def, Option.some.injEq] at h
      obtain ⟨source, hs, _, ⟨rfl, hr⟩, rfl⟩ := h
      have kind {n : Nat} (h : n < 256) (e : k.toNat = n) : k = BitVec.ofNat 8 n := ((byteOfNat_eq h).2 e).symm
      split at hs
      next hk =>
        simp only [Option.bind_eq_some_iff, within_eq_some, Option.ite_none_right_eq_some, Option.some.injEq] at hs
        obtain ⟨_, ⟨rfl, hl⟩, rfl, rfl⟩ := hs
        exact ⟨⟨hr.2, hl.2⟩, by simp [encodeArea, encodeSource, kind (by decide) hk]⟩
      next hk =>
        simp only [Option.bind_eq_some_iff, within_eq_some, Option.some.injEq] at hs
        obtain ⟨_, ⟨rfl, h1⟩, _, ⟨rfl, h2⟩, rfl⟩ := hs
        exact ⟨⟨hr.2, h1.1, h1.2, h2.2⟩, by simp [encodeArea, encodeSource, kind (by decide) hk]⟩
      next hk =>
        simp only [Option.ite_none_right_eq_some, Option.some.injEq] at hs
        obtain ⟨⟨rfl, rfl⟩, rfl⟩ := hs
        exact ⟨⟨hr.2, trivial⟩, by simp [encodeArea, encodeSource, kind (by decide) hk]⟩
      · cases hs
    · cases h

theorem node_codec : Codec decodeNode encodeNode NodeEntry.Valid 9 where
  reads e h := by
    obtain ⟨ha, ⟨hl, hl'⟩, ⟨hc, hc'⟩, hm, hp, ⟨hs1, hs2, hs3⟩, ⟨hn, hn'⟩, hb⟩ := h
    obtain ⟨l, el⟩ := opt8_byte e.line
    obtain ⟨c1, c0, ec⟩ := opt16_bytes e.clearLevel
    obtain ⟨me, em⟩ := opt8_byte (e.measure.map boolNat)
    obtain ⟨pb, ep⟩ := opt8_byte (e.purgeBin.map boolNat)
    obtain ⟨st, es⟩ := opt8_byte e.station
    obtain ⟨ln, en⟩ := opt8_byte e.localNo
    have hk : e.kind.code < 256 := by cases e.kind <;> decide
    have hst := opt8_isSome es fun x k => by have := hs3 x k; omega
    simp only [encodeNode, u8, el, ec, em, ep, es, en, List.cons_append, List.nil_append, decodeNode, Option.bind_eq_bind,
      Option.bind_eq_some_iff, within_eq_some, nodeKindOf_eq_some, carried8_within (show 23 < 256 by decide),
      carried8_within (show 3 < 256 by decide), carried8_within (show 7 < 256 by decide),
      carried16_within (show 1023 < 65536 by decide), carried8_bool, Option.pure_def, Option.ite_none_left_eq_some,
      Option.some.injEq]
    have stationed : e.station.isSome = decide (e.kind = .remote ∨ e.kind = .dest ∧ st ≠ 0xFF) := by
      grind
    have bin : ¬(e.kind = .dest ∧ e.station ≠ none ∧ e.purgeBin = some true) := by
      rintro ⟨hd, some, purge⟩
      cases (hb hd (Option.isSome_iff_ne_none.2 some)).symm.trans purge
    exact ⟨e.kind, toNat_byte hk, e.area, ⟨toNat_byte (by omega), Nat.zero_le _, ha⟩,
      e.line, ⟨Bool.eq_iff_iff.2 (by simpa using hl), el, fun x k => ⟨Nat.zero_le x, hl' x k⟩⟩,
      e.clearLevel, ⟨Bool.eq_iff_iff.2 (by simpa using hc), ec, fun x k => ⟨Nat.zero_le x, hc' x k⟩⟩,
      e.measure, ⟨Bool.eq_iff_iff.2 (by simpa using hm), em⟩, e.purgeBin, ⟨Bool.eq_iff_iff.2 (by simpa using hp), ep⟩,
      e.station, ⟨stationed, es, hs3⟩, e.localNo, ⟨hn.trans stationed, en, fun x k => ⟨Nat.zero_le x, hn' x k⟩⟩, bin, rfl⟩
  width e _ := by
    obtain ⟨l, el⟩ := opt8_byte e.line
    obtain ⟨c1, c0, ec⟩ := opt16_bytes e.clearLevel
    obtain ⟨me, em⟩ := opt8_byte (e.measure.map boolNat)
    obtain ⟨pb, ep⟩ := opt8_byte (e.purgeBin.map boolNat)
    obtain ⟨st, es⟩ := opt8_byte e.station
    obtain ⟨ln, en⟩ := opt8_byte e.localNo
    simp [encodeNode, u8, el, ec, em, ep, es, en]
  spelled x e h := by
    unfold decodeNode at h
    split at h
    · simp only [Option.bind_eq_bind, Option.bind_eq_some_iff, within_eq_some, nodeKindOf_eq_some,
        carried8_within (show 23 < 256 by decide), carried8_within (show 3 < 256 by decide),
        carried8_within (show 7 < 256 by decide), carried16_within (show 1023 < 65536 by decide), carried8_bool,
        Option.pure_def, Option.ite_none_left_eq_some, Option.some.injEq] at h
      obtain ⟨kind, hk, _, ⟨rfl, ha⟩, line, ⟨hl, hl1, hl2⟩, clearLevel, ⟨hc, hc1, hc2⟩, measure, ⟨hm, hm1⟩,
        purgeBin, ⟨hp, hp1⟩, station, ⟨hs, hs1, hs2⟩, localNo, ⟨hn, hn1, hn2⟩, hb, rfl⟩ := h
      refine ⟨⟨ha.2, ⟨by simp [hl], fun x k => (hl2 x k).2⟩, ⟨by simp [hc], fun x k => (hc2 x k).2⟩, by simp [hm],
        by simp [hp], ⟨fun k => hs.trans (decide_eq_true (.inl k)), fun k => ?_, hs2⟩,
        ⟨hn.trans hs.symm, fun x k => (hn2 x k).2⟩, fun hd some => ?_⟩, ?_⟩
      · exact (of_decide_eq_true (hs.symm.trans k)).imp_right And.left
      · obtain ⟨v, rfl⟩ : ∃ v, purgeBin = .some v := Option.isSome_iff_exists.1 (hp.trans (decide_eq_true hd))
        cases v with
        | false => rfl
        | true => exact absurd ⟨hd, Option.isSome_iff_ne_none.1 some, rfl⟩ hb
      · simp [encodeNode, ← hk, hl1, hc1, hm1, hp1, hs1, hn1]
    · cases h

/-- A route entry in its parts: the steps taken, the bytes beyond them, and the PURGE flag (R189). -/
theorem decodeRoute_parts {c z : Byte} {a b : List Byte} (ha : a.length = c.toNat) (hab : a.length + b.length = 20) :
    decodeRoute (c :: (a ++ b ++ [z])) =
      if 1 ≤ a.length ∧ (∀ x ∈ a, x.toNat ≤ 47) ∧ ∀ x ∈ b, x = 0xFF then (boolOf z.toNat).map fun p => ⟨a.map (·.toNat), p⟩
      else none := by
  have taken : (a ++ b ++ [z]).take c.toNat = a := by rw [← ha, List.append_assoc, List.take_left]
  have unused : ((a ++ b ++ [z]).drop c.toNat).take (20 - c.toNat) = b := by
    rw [← ha, List.append_assoc, List.drop_left, show 20 - a.length = b.length by omega, List.take_left]
  have count : (a ++ b ++ [z]).length = 21 := by simp; omega
  unfold decodeRoute
  by_cases h : 1 ≤ a.length
  · have hn : within 1 20 c.toNat = some c.toNat := within_self (by omega) (by omega)
    have hall : ((a.map (·.toNat)).all (· ≤ 47) = true ∧ b.all (· = 0xFF) = true) ↔
        (∀ x ∈ a, x.toNat ≤ 47) ∧ ∀ x ∈ b, x = 0xFF := by simp
    simp only [hn, count, taken, unused, hall, h, true_and, Option.bind_eq_bind, Option.bind_some, ne_eq, not_true_eq_false,
      if_false, List.getLast?_concat, Option.map_some, Option.getD_some]
    cases boolOf z.toNat <;> rfl
  · have hn : within 1 20 c.toNat = none := by simp [within]; omega
    simp [hn, h]

theorem exists_route_parts {n : Nat} (hn : n ≤ 20) {rest : List Byte} (h : rest.length = 21) :
    ∃ a b z, rest = a ++ b ++ [z] ∧ a.length = n ∧ a.length + b.length = 20 := by
  have last : rest ≠ [] := by rintro rfl; cases h
  refine ⟨rest.dropLast.take n, rest.dropLast.drop n, rest.getLast last, ?_, ?_, ?_⟩
  · rw [List.take_append_drop, List.dropLast_append_getLast]
  · simp only [List.length_take, List.length_dropLast]
    omega
  · simp only [List.length_take, List.length_drop, List.length_dropLast]
    omega

theorem decodeRoute_some {c : Byte} {rest : List Byte} {e : RouteEntry} (h : decodeRoute (c :: rest) = some e) :
    c.toNat ≤ 20 ∧ rest.length = 21 := by
  unfold decodeRoute at h
  simp only [Option.bind_eq_bind, Option.bind_eq_some_iff, within_eq_some, ne_eq, Option.ite_none_left_eq_some, not_not] at h
  obtain ⟨_, ⟨rfl, hn⟩, hr, -⟩ := h
  exact ⟨hn.2, hr⟩

theorem encodeRoute_eq (e : RouteEntry) : encodeRoute e =
    BitVec.ofNat 8 e.steps.length :: (e.steps.map (BitVec.ofNat 8) ++ List.replicate (20 - e.steps.length) 0xFF ++
      [BitVec.ofNat 8 (boolNat e.purge)]) := by
  have : u8 = fun n => [BitVec.ofNat 8 n] := rfl
  simp [encodeRoute, this, flag8_eq, ← List.map_eq_flatMap]

theorem map_toNat_map_ofNat {l : List Nat} (h : ∀ x ∈ l, x < 256) : (l.map (BitVec.ofNat 8)).map (·.toNat) = l := by
  rw [List.map_map]
  exact (List.map_congr_left fun x k => toNat_byte (h x k)).trans (List.map_id l)

theorem map_ofNat_map_toNat (l : List Byte) : (l.map (·.toNat)).map (BitVec.ofNat 8) = l := by
  rw [List.map_map]
  exact List.map_id'' (fun b => BitVec.ofNat_toNat 8 b) l

theorem route_codec : Codec decodeRoute encodeRoute RouteEntry.Valid 22 where
  reads e h := by
    obtain ⟨⟨h1, h20⟩, hs⟩ := h
    have bytes : (e.steps.map (BitVec.ofNat 8)).map (·.toNat) = e.steps := map_toNat_map_ofNat fun x k => by have := hs x k; omega
    have small : ∀ x ∈ e.steps.map (BitVec.ofNat 8), x.toNat ≤ 47 := fun x k => hs _ (bytes ▸ List.mem_map_of_mem k)
    rw [encodeRoute_eq, decodeRoute_parts (by simp; omega) (by simp; omega), toNat_byte (boolNat_lt _), boolOf_eq_some.2 rfl,
      bytes, if_pos ⟨by simpa using h1, small, fun x k => List.eq_of_mem_replicate k⟩]
    rfl
  width e h := by
    obtain ⟨⟨h1, h20⟩, hs⟩ := h
    simp [encodeRoute_eq]
    omega
  spelled x e h := by
    cases x with
    | nil => cases h
    | cons c rest =>
      obtain ⟨hn, hr⟩ := decodeRoute_some h
      obtain ⟨a, b, z, rfl, ha, hab⟩ := exists_route_parts hn hr
      rw [decodeRoute_parts ha hab, Option.ite_none_right_eq_some, Option.map_eq_some_iff] at h
      obtain ⟨⟨h1, hs, hu⟩, p, hp, rfl⟩ := h
      have unused : b = List.replicate (20 - a.length) 0xFF := by
        rw [List.eq_replicate_iff]
        exact ⟨by omega, hu⟩
      refine ⟨⟨by simp; omega, by simpa using hs⟩, ?_⟩
      rw [encodeRoute_eq, unused, ← boolOf_eq_some.1 hp, map_ofNat_map_toNat]
      simp [ha]

end Sys2Proof.Machine
end

section
/-! SUPPORT. The path map's commands MAP_PUT and MAP_GET (R2 to R6, R15): what a table, and the states that stand behind it, are after
entries are written, cleared or refused. -/

namespace Sys2Proof.Machine

/-! ## Ranges of a list -/

theorem mapRange_eq {α : Type} (f : α → α) (k n : Nat) (l : List α) :
    mapRange f k n l = l.take k ++ ((l.drop k).take n).map f ++ l.drop (k + n) := by
  fun_induction mapRange f k n l with
  | case1 => simp
  | case2 => simp
  | case3 n x xs ih => simpa using ih
  | case4 k n x xs ih => simpa [show k + 1 + (n + 1) = (k + (n + 1)) + 1 by omega] using ih

theorem mapRange_all {α : Type} {f : α → α} {n : Nat} {l : List α} (h : l.length = n) : mapRange f 0 n l = l.map f := by
  simp [mapRange_eq, ← h]

theorem mapRange_overwritten {α : Type} (f : α → α) {k n : Nat} {l : List α} (h : k + n ≤ l.length) :
    mapRange f k n l = overwritten k (((l.drop k).take n).map f) l := by
  have : min n (l.length - k) = n := by omega
  simp [mapRange_eq, overwritten, this]

/-- Entries that return to one value: as many as are written (R18, R34, R42, R121). -/
theorem mapRange_const {α β : Type} (x : α) {k : Nat} {l : List α} {es : List β} (h : k + es.length ≤ l.length) :
    mapRange (fun _ => x) k es.length l = overwritten k (es.map fun _ => x) l := by
  have : min es.length (l.length - k) = es.length := by omega
  rw [mapRange_overwritten _ h, List.map_const', List.map_const', List.length_take, List.length_drop, this]

theorem writeFrom_eq {α : Type} {k : Nat} {ys : List α} {l : List (Option α)} (h : k + ys.length ≤ l.length) :
    writeFrom k ys l = overwritten k (ys.map some) l := by
  fun_induction writeFrom k ys l with
  | case1 => simp [overwritten]
  | case2 => simp at h
  | case3 y ys x xs ih => simpa [overwritten] using ih (by simpa using h)
  | case4 k y ys x xs ih =>
    have := ih (by simp at h ⊢; omega)
    simpa [overwritten, show k + 1 + (ys.length + 1) = (k + (ys.length + 1)) + 1 by omega] using this

theorem getElem?_overwritten {α : Type} {i k : Nat} {new old : List α} (h : i ≤ old.length) (hk : k < new.length) :
    (overwritten i new old)[i + k]? = new[k]? := by
  have hi : (old.take i).length = i := by simp [h]
  rw [overwritten, List.append_assoc, List.getElem?_append_right (by omega), hi, Nat.add_sub_cancel_left, List.getElem?_append_left hk]

/-- The entries `es` stand in the table `t` from index `i` on. -/
def StandsFrom {α : Type} (t : List (Option α)) (i : Nat) (es : List α) : Prop :=
  ∀ k e, es[k]? = some e → entryAt t (i + k) = some e

theorem StandsFrom.head {α : Type} {t : List (Option α)} {i : Nat} {x : α} {xs : List α} (h : StandsFrom t i (x :: xs)) :
    entryAt t i = some x := h 0 x rfl

theorem StandsFrom.tail {α : Type} {t : List (Option α)} {i : Nat} {x : α} {xs : List α} (h : StandsFrom t i (x :: xs)) :
    StandsFrom t (i + 1) xs := fun k e he => by
  rw [Nat.add_right_comm]
  exact h (k + 1) e he

theorem standsFrom_overwritten {α : Type} {i : Nat} {es : List α} {t : List (Option α)} (h : i ≤ t.length) :
    StandsFrom (overwritten i (es.map some) t) i es := fun k e he => by
  have hk : k < es.length := (List.getElem?_eq_some_iff.1 he).1
  rw [entryAt, getElem?_overwritten h (by simpa using hk), List.getElem?_map, he]
  rfl

/-! ## Entries that clash -/

theorem nodeClash_iff (a b : NodeEntry) : nodeClash a b = true ↔ NodeEntry.Clash a b := by
  unfold nodeClash NodeEntry.Clash
  cases a.kind <;> simp [and_assoc]

theorem gateClash_iff (a b : GateEntry) : gateClash a b = true ↔ GateEntry.Clash a b := by
  simp [gateClash, GateEntry.Clash, or_assoc]

theorem noClash_iff {α : Type} (a b : α) : noClash a b = true ↔ False := by simp [noClash]

section Clashing

variable {α : Type} {clash : α → α → Bool} {C : α → α → Prop} (hC : ∀ a b, clash a b = true ↔ C a b)
include hC

theorem any_clash_iff {t : List (Option α)} {i : Nat} {x : α} (h : entryAt t i = some x) :
    ((definedEntries t).any fun p => p.1 != i && clash x p.2) = true ↔ Clashes C t i := by
  simp only [List.any_eq_true, Prod.exists, mem_definedEntries, Bool.and_eq_true, bne_iff_ne, hC]
  constructor
  · rintro ⟨k, b, hb, hk, hc⟩
    exact ⟨x, b, k, hk, h, hb, hc⟩
  · rintro ⟨a, b, k, hk, ha, hb, hc⟩
    obtain rfl : x = a := Option.some.inj (h.symm.trans ha)
    exact ⟨k, b, hb, hk, hc⟩

theorem firstClash_here {t : List (Option α)} {i : Nat} {x : α} {xs : List α} (h : entryAt t i = some x) (hc : Clashes C t i) :
    firstClash clash t i (x :: xs) = some i :=
  if_pos ((any_clash_iff hC h).2 hc)

theorem firstClash_next {t : List (Option α)} {i : Nat} {x : α} {xs : List α} (h : entryAt t i = some x) (hc : ¬Clashes C t i) :
    firstClash clash t i (x :: xs) = firstClash clash t (i + 1) xs :=
  if_neg fun k => hc ((any_clash_iff hC h).1 k)

theorem firstClash_none {t : List (Option α)} {i : Nat} {es : List α} (h : StandsFrom t i es)
    (hn : ∀ j, i ≤ j → j < i + es.length → ¬Clashes C t j) : firstClash clash t i es = none := by
  induction es generalizing i with
  | nil => rfl
  | cons x xs ih =>
    rw [firstClash_next hC h.head (hn i le_rfl (by simp))]
    exact ih h.tail fun j h1 h2 => hn j (by omega) (by simp; omega)

theorem firstClash_some {t : List (Option α)} {i j : Nat} {es : List α} (h : StandsFrom t i es)
    (hi : i ≤ j) (hj : j < i + es.length) (hc : Clashes C t j) (hn : ∀ k, i ≤ k → k < j → ¬Clashes C t k) :
    firstClash clash t i es = some j := by
  induction es generalizing i with
  | nil => simp at hj; omega
  | cons x xs ih =>
    rcases hi.eq_or_lt with rfl | hlt
    · exact firstClash_here hC h.head hc
    · rw [firstClash_next hC h.head (hn i le_rfl hlt)]
      exact ih h.tail hlt (by simp at hj; omega) fun k h1 h2 => hn k (by omega) h2

end Clashing

/-! ## A table's entries as they are sent -/

section Sent

variable {α : Type} {decode : List Byte → Option α} {encode : α → List Byte} {valid : α → Prop} {width : Nat}

theorem Codec.chunks_append (c : Codec decode encode valid width) {es : List α} (h : ∀ e ∈ es, valid e) (n : Nat) (rest : List Byte) :
    chunks width (es.length + n) (es.flatMap encode ++ rest) = es.map encode ++ chunks width n rest := by
  induction es with
  | nil => simp
  | cons e es ih =>
    have hw := c.width e (h e (List.mem_cons_self ..))
    have ih := ih fun x hx => h x (List.mem_cons_of_mem e hx)
    rw [List.length_cons, Nat.add_right_comm, List.flatMap_cons, List.append_assoc, chunks, List.take_left' hw, List.drop_left' hw, ih]
    rfl

theorem Codec.chunks_eq (c : Codec decode encode valid width) {es : List α} (h : ∀ e ∈ es, valid e) :
    chunks width es.length (es.flatMap encode) = es.map encode := by
  simpa [chunks] using c.chunks_append h 0 []

theorem Codec.decodeAll_eq (c : Codec decode encode valid width) {es : List α} (h : ∀ e ∈ es, valid e) (i : Nat) :
    decodeAll decode i (es.map encode) = .inr es := by
  induction es generalizing i with
  | nil => rfl
  | cons e es ih =>
    have ih := ih (fun x hx => h x (List.mem_cons_of_mem e hx)) (i + 1)
    simp [decodeAll, c.reads e (h e (List.mem_cons_self ..)), ih]

/-- The first body that is no valid entry's stops the reading (R3). -/
theorem Codec.decodeAll_bad (c : Codec decode encode valid width) {es : List α} (h : ∀ e ∈ es, valid e) {x : List Byte}
    (hx : ∀ e, valid e → encode e ≠ x) (i : Nat) (rest : List (List Byte)) :
    decodeAll decode i (es.map encode ++ x :: rest) = .inl (i + es.length) := by
  induction es generalizing i with
  | nil =>
    have : decode x = none := by
      by_contra hn
      obtain ⟨e, he⟩ := Option.ne_none_iff_exists'.1 hn
      obtain ⟨hv, hs⟩ := c.spelled x e he
      exact hx e hv hs
    simp [decodeAll, this]
  | cons e es ih =>
    have ih := ih (fun x hx => h x (List.mem_cons_of_mem e hx)) (i + 1)
    simp [decodeAll, c.reads e (h e (List.mem_cons_self ..)), ih]
    omega

variable {clash : α → α → Bool} {C : α → α → Prop} {i : Nat} {es : List α} {t : List (Option α)}

theorem Codec.putTable_writes (c : Codec decode encode valid width) (hC : ∀ a b, clash a b = true ↔ C a b)
    (h : ∀ e ∈ es, valid e) (hr : i + es.length ≤ t.length)
    (hn : ∀ j, i ≤ j → j < i + es.length → ¬Clashes C (overwritten i (es.map some) t) j) :
    putTable decode clash i (chunks width es.length (es.flatMap encode)) t = .inr (overwritten i (es.map some) t) := by
  have hf := firstClash_none hC (standsFrom_overwritten (t := t) (es := es) (i := i) (by omega)) hn
  simp [putTable, c.chunks_eq h, c.decodeAll_eq h, writeFrom_eq hr, hf]

theorem Codec.putTable_clash (c : Codec decode encode valid width) (hC : ∀ a b, clash a b = true ↔ C a b)
    (h : ∀ e ∈ es, valid e) (hr : i + es.length ≤ t.length) {j : Nat} (hi : i ≤ j) (hj : j < i + es.length)
    (hc : Clashes C (overwritten i (es.map some) t) j)
    (hn : ∀ k, i ≤ k → k < j → ¬Clashes C (overwritten i (es.map some) t) k) :
    putTable decode clash i (chunks width es.length (es.flatMap encode)) t = .inl j := by
  have hf := firstClash_some hC (standsFrom_overwritten (t := t) (es := es) (i := i) (by omega)) hi hj hc hn
  simp [putTable, c.chunks_eq h, c.decodeAll_eq h, writeFrom_eq hr, hf]

theorem Codec.putTable_bad (c : Codec decode encode valid width) (h : ∀ e ∈ es, valid e) {x rest : List Byte} {k : Nat}
    (hl : x.length = width) (hx : ∀ e, valid e → encode e ≠ x) :
    putTable decode clash i (chunks width (es.length + 1 + k) (es.flatMap encode ++ x ++ rest)) t = .inl (i + es.length) := by
  have hb : chunks width (es.length + (k + 1)) (es.flatMap encode ++ (x ++ rest)) = es.map encode ++ x :: chunks width k rest := by
    rw [c.chunks_append h, chunks, List.take_left' hl, List.drop_left' hl]
  rw [show es.length + 1 + k = es.length + (k + 1) by omega, List.append_assoc, hb, putTable, c.decodeAll_bad h hx]

end Sent

end Sys2Proof.Machine
end

section
/-! SUPPORT. What the requests MAP_PUT and MAP_GET answer, and the obligations about them: ParametersClamped, MapPutReplacesEntries,
MapPutRefused and MapGetReads. -/

namespace Sys2Proof.Machine

/-! ## MAP_PUT -/

section MapPut

variable {tag : Byte} {table first count : Nat} {body : List Byte} {s : State}

/-- A request that is answered by its block, with nothing of the reprint queue or an FLT event left to close. -/
theorem takeRequest_replied {k t : Byte} {f : State → State} {u : State} {st : Status} {c : Bool} {fs : List Byte} (r : Ready s)
    (e : f (heard s) = replied (replyKind k) t st c fs u) (q : Settled u) :
    takeRequest k t f s = replied (replyKind k) t st c fs u := by
  rw [takeRequest_ready r, e]
  exact finish_settled q

theorem Ready.settled_heard (r : Ready s) : Settled (heard s) := r.2.2.2.2

theorem settled_freshState {u : State} (h : Settled u) : Settled (freshState table first count u) := by
  unfold freshState
  split <;> exact h

theorem mapPut_answered {st : Status} {c : Bool} {fs : List Byte} {u : State} (r : Ready s)
    (e : performMapPut tag table first count body (heard s) = replied 0x43 tag st c fs u) (q : Settled u) :
    exec (.mapPut tag table first count body) s = .next (replied 0x43 tag st c fs u) :=
  congrArg Host.Outcome.next (takeRequest_replied r e q)

theorem mapPut_closed (r : Ready s) (h : s.rcv.path ≠ .config) :
    exec (.mapPut tag table first count body) s = .next (replied 0x43 tag .state false [] (heard s)) :=
  mapPut_answered r (if_pos h) r.settled_heard

theorem mapPut_noTable (r : Ready s) (hp : s.rcv.path = .config) (h : 7 < table) :
    exec (.mapPut tag table first count body) s = .next (replied 0x43 tag .field false (u8 table ++ u8 first) (heard s)) :=
  mapPut_answered r ((if_neg (not_not.2 hp)).trans (if_pos h)) r.settled_heard

theorem mapPut_clears (r : Ready s) (hp : s.rcv.path = .config) (ht : table ≤ 7) :
    exec (.mapPut tag table first 0 body) s = .next (replied 0x43 tag .done false []
      (freshState table 0 (tableSize table) (setMap (clearTable table s.pms) (heard s)))) :=
  mapPut_answered r ((if_neg (not_not.2 hp)).trans ((if_neg (by omega)).trans (if_pos rfl))) (settled_freshState r.settled_heard)

theorem mapPut_beyond (r : Ready s) (hp : s.rcv.path = .config) (ht : table ≤ 7) (hc : 0 < count)
    (h : tableSize table < first + count) :
    exec (.mapPut tag table first count body) s =
      .next (replied 0x43 tag .field false (u8 table ++ u8 (max first (tableSize table))) (heard s)) :=
  mapPut_answered r ((if_neg (not_not.2 hp)).trans ((if_neg (by omega)).trans ((if_neg (by omega)).trans (if_pos h)))) r.settled_heard

theorem performMapPut_fails {i : Nat} (hp : s.rcv.path = .config) (ht : table ≤ 7) (hc : 0 < count)
    (h : first + count ≤ tableSize table) (e : putEntries s.pms table first (chunks (entryBytes table) count body) = .inl i) :
    performMapPut tag table first count body s = refuseEntry tag table i s := by
  simp [performMapPut, hp, Nat.not_lt.2 ht, Nat.pos_iff_ne_zero.1 hc, Nat.not_lt.2 h, e]

theorem performMapPut_writes {m : MapStore} {c : Bool} (hp : s.rcv.path = .config) (ht : table ≤ 7) (hc : 0 < count)
    (h : first + count ≤ tableSize table) (e : putEntries s.pms table first (chunks (entryBytes table) count body) = .inr (m, c)) :
    performMapPut tag table first count body s = answer kMAP_PUT tag .done c [] (freshState table first count (setMap m s)) := by
  simp [performMapPut, hp, Nat.not_lt.2 ht, Nat.pos_iff_ne_zero.1 hc, Nat.not_lt.2 h, e]

theorem mapPut_entry {i : Nat} (r : Ready s) (hp : s.rcv.path = .config) (ht : table ≤ 7) (hc : 0 < count)
    (h : first + count ≤ tableSize table) (e : putEntries s.pms table first (chunks (entryBytes table) count body) = .inl i) :
    exec (.mapPut tag table first count body) s = .next (replied 0x43 tag .field false (u8 table ++ u8 i) (heard s)) :=
  mapPut_answered r (performMapPut_fails (s := heard s) hp ht hc h e) r.settled_heard

theorem mapPut_writes {m : MapStore} {c : Bool} (r : Ready s) (hp : s.rcv.path = .config) (ht : table ≤ 7) (hc : 0 < count)
    (h : first + count ≤ tableSize table) (e : putEntries s.pms table first (chunks (entryBytes table) count body) = .inr (m, c)) :
    exec (.mapPut tag table first count body) s =
      .next (replied 0x43 tag .done c [] (freshState table first count (setMap m (heard s)))) :=
  mapPut_answered r (performMapPut_writes (s := heard s) hp ht hc h e) (settled_freshState r.settled_heard)

end MapPut

/-! ## MAP_GET -/

theorem mapGet_answered {tag : Byte} {table first count : Nat} {s : State} (r : Ready s) {st : Status} {fs : List Byte}
    (e : performMapGet tag table first count (heard s) = replied 0x44 tag st false fs (heard s)) :
    exec (.mapGet tag table first count) s = .next (replied 0x44 tag st false fs (heard s)) :=
  congrArg Host.Outcome.next (takeRequest_replied r e r.settled_heard)

theorem mapGet_reads {tag : Byte} {table first count : Nat} {s : State} (r : Ready s) (ht : table ≤ 7) (hf : first < tableSize table)
    (hc : 0 < count) : exec (.mapGet tag table first count) s = .next (replied 0x44 tag .done false
      (list8 (fitting 117 (((tableBytes s.pms table).drop first).take count))) (heard s)) :=
  mapGet_answered r (if_neg (by omega))

theorem mapGet_refused {tag : Byte} {table first count : Nat} {s : State} (r : Ready s)
    (h : 7 < table ∨ tableSize table ≤ first ∨ count = 0) :
    exec (.mapGet tag table first count) s = .next (replied 0x44 tag .field false [] (heard s)) :=
  mapGet_answered r (if_pos h)

theorem tableSize_iff {table size : Nat} :
    [1, 32, 48, 16, 12, 8, 6, 16][table]? = some size ↔ table ≤ 7 ∧ tableSize table = size := by
  by_cases h : table ≤ 7
  · interval_cases table <;> simp [tableSize]
  · simp only [h, false_and, iff_false]
    rw [List.getElem?_eq_none (by simp; omega)]
    simp

/-! ## The seven tables of entries -/

/-- Table number `table` of the map `m` holds `t`, a MAP_PUT of it makes `g` of what it then holds, and `C` says which of its entries
may not stand together. -/
structure Tabled {α : Type} (m : MapStore) (table : Nat) (decode : List Byte → Option α) (encode : α → List Byte) (valid : α → Prop)
    (clash : α → α → Bool) (C : α → α → Prop) (t : List (Option α)) (g : List (Option α) → MapStore) : Prop where
  number : table ≤ 7
  codec : Codec decode encode valid (entryBytes table)
  clashes : ∀ a b, clash a b = true ↔ C a b
  puts : ∀ i bodies, putEntries m table i bodies = (putTable decode clash i bodies t).map id fun t => (g t, false)

theorem nodes_tabled (m : MapStore) : Tabled m 1 decodeNode encodeNode NodeEntry.Valid nodeClash NodeEntry.Clash m.nodes
    fun t => { m with nodes := t } := ⟨by decide, node_codec, nodeClash_iff, fun _ _ => rfl⟩

theorem segs_tabled (m : MapStore) : Tabled m 2 decodeSeg encodeSeg SegEntry.Valid noClash (fun _ _ => False) m.segs
    fun t => { m with segs := t } := ⟨by decide, seg_codec, noClash_iff, fun _ _ => rfl⟩

theorem routes_tabled (m : MapStore) : Tabled m 3 decodeRoute encodeRoute RouteEntry.Valid noClash (fun _ _ => False) m.routes
    fun t => { m with routes := t } := ⟨by decide, route_codec, noClash_iff, fun _ _ => rfl⟩

theorem areas_tabled (m : MapStore) : Tabled m 4 decodeArea encodeArea AreaEntry.Valid noClash (fun _ _ => False) m.areas
    fun t => { m with areas := t } := ⟨by decide, area_codec, noClash_iff, fun _ _ => rfl⟩

theorem zones_tabled (m : MapStore) : Tabled m 5 decodeZone encodeZone ZoneEntry.Valid noClash (fun _ _ => False) m.zones
    fun t => { m with zones := t } := ⟨by decide, zone_codec, noClash_iff, fun _ _ => rfl⟩

theorem gates_tabled (m : MapStore) : Tabled m 6 decodeGate encodeGate GateEntry.Valid gateClash GateEntry.Clash m.gates
    fun t => { m with gates := t } := ⟨by decide, gate_codec, gateClash_iff, fun _ _ => rfl⟩

theorem media_tabled (m : MapStore) : Tabled m 7 decodeMedia encodeMedia MediaEntry.Valid noClash (fun _ _ => False) m.media
    fun t => { m with media := t } := ⟨by decide, media_codec, noClash_iff, fun _ _ => rfl⟩

theorem not_clashes_false {α : Type} (t : List (Option α)) (j : Nat) : ¬Clashes (fun _ _ => False) t j := by
  rintro ⟨_, _, _, -, -, -, h⟩
  exact h

section Tabled

variable {α : Type} {s : State} {table : Nat} {decode : List Byte → Option α} {encode : α → List Byte} {valid : α → Prop}
  {clash : α → α → Bool} {C : α → α → Prop} {t : List (Option α)} {g : List (Option α) → MapStore} {tag : Byte} {i : Nat}
  {es : List α}

theorem Tabled.mapPut_writes (b : Tabled s.pms table decode encode valid clash C t g) (r : Ready s) (hp : s.rcv.path = .config)
    (he : es ≠ []) (hr : i + es.length ≤ tableSize table) (hl : t.length = tableSize table) (h : ∀ e ∈ es, valid e)
    (hn : ∀ j, i ≤ j → j < i + es.length → ¬Clashes C (overwritten i (es.map some) t) j) :
    exec (.mapPut tag table i es.length (es.flatMap encode)) s = .next (replied 0x43 tag .done false []
      (freshState table i es.length (setMap (g (overwritten i (es.map some) t)) (heard s)))) := by
  refine Machine.mapPut_writes r hp b.number (List.length_pos_iff.2 he) hr ?_
  rw [b.puts, b.codec.putTable_writes b.clashes h (hl ▸ hr) hn]
  rfl

theorem Tabled.mapPut_clash (b : Tabled s.pms table decode encode valid clash C t g) (r : Ready s) (hp : s.rcv.path = .config)
    (hl : t.length = tableSize table) (hr : i + es.length ≤ tableSize table) (h : ∀ e ∈ es, valid e) {j : Nat} (hi : i ≤ j)
    (hj : j < i + es.length) (hc : Clashes C (overwritten i (es.map some) t) j)
    (hn : ∀ k, i ≤ k → k < j → ¬Clashes C (overwritten i (es.map some) t) k) :
    exec (.mapPut tag table i es.length (es.flatMap encode)) s =
      .next (replied 0x43 tag .field false (u8 table ++ u8 j) (heard s)) := by
  refine mapPut_entry r hp b.number (by omega) hr ?_
  rw [b.puts, b.codec.putTable_clash b.clashes h (hl ▸ hr) hi hj hc hn]
  rfl

theorem Tabled.mapPut_bad (b : Tabled s.pms table decode encode valid clash C t g) (r : Ready s) (hp : s.rcv.path = .config)
    (first k : Nat) (es : List α) (x rest : List Byte) (h : ∀ e ∈ es, valid e) (hl : x.length = entryBytes table)
    (hx : ∀ e, valid e → encode e ≠ x) (hr : first + (es.length + 1 + k) ≤ tableSize table) :
    exec (.mapPut tag table first (es.length + 1 + k) (es.flatMap encode ++ x ++ rest)) s =
      .next (replied 0x43 tag .field false (u8 table ++ u8 (first + es.length)) (heard s)) := by
  refine mapPut_entry r hp b.number (by omega) hr ?_
  rw [b.puts, b.codec.putTable_bad h hl hx]
  rfl

end Tabled

/-! ## The parameter entry -/

/-- The parameters that stand after a MAP_PUT of these four bytes is clamped (R4). -/
def clampedParams (g1 g0 cv cl : Byte) : Params :=
  let cover := min (max cv.toNat 20) 80
  ⟨be16 g1 g0, cover, min (max cl.toNat (cover + 10)) 95⟩

theorem putParams_eq (m : MapStore) (g1 g0 cv cl : Byte) :
    putParams m [[g1, g0, cv, cl]] =
      let p := clampedParams g1 g0 cv cl
      if be16 g1 g0 ≤ 2000 then .inr ({ m with params := some p }, decide (p.coverPct ≠ cv.toNat ∨ p.clearPct ≠ cl.toNat))
      else .inl 0 := by
  have told (a b c d : Nat) : (a != b || c != d) = decide (a ≠ b ∨ c ≠ d) := by
    rw [Bool.eq_iff_iff]
    simp
  unfold putParams decodeParams
  by_cases h : be16 g1 g0 ≤ 2000
  · simp only [within_self (Nat.zero_le _) h, Option.bind_eq_bind, Option.bind_some, Option.pure_def, told, clampedParams, h, if_true]
    rfl
  · simp [within, h]

/-! ## The obligations -/

/-- Settles O13: the entry that is written is the clamped one (`putParams_eq`), and MAP_GET reads the entry that stands. -/
theorem parametersClamped : Obligations.ParametersClamped := by
  unfold Obligations.ParametersClamped
  intro tag g1 g0 cv cl s r hp
  have entry := putParams_eq s.pms g1 g0 cv cl
  refine ⟨fun h => ?_, fun h => ?_, fun u ru hu => ?_⟩
  · exact mapPut_entry r hp (by decide) (by decide) (by decide) (entry.trans (if_neg (Nat.not_le.2 h)))
  · exact mapPut_writes (first := 0) (count := 1) r hp (table := 0) (by decide) (by decide) (by decide) (entry.trans (if_pos h))
  · have stored : tableBytes u.pms 0 = [[1] ++ encodeParams (clampedParams g1 g0 cv cl)] :=
      congrArg (fun p => [markedEntry encodeParams p]) hu
    rw [mapGet_reads ru (by decide) (by decide) (by decide), stored]
    rfl

/-- Settles O14: one instance of `Tabled.mapPut_writes` per table. -/
theorem mapPutReplacesEntries : Obligations.MapPutReplacesEntries := by
  unfold Obligations.MapPutReplacesEntries
  intro tag i s r hp m
  have fits {n l : Nat} (h : i + n ≤ l) {α : Type} {bank : List α} (hb : bank.length = l) : i + n ≤ bank.length := hb ▸ h
  refine ⟨fun es he hr hv hn hb => ?_, fun es he hr hv => ?_, fun es he hr hv => ?_, fun es he hr hv hb => ?_,
    fun es he hr hv hb => ?_, fun es he hr hv hn hb => ?_, fun es he hr hv => ?_⟩
  · rw [← mapRange_const _ (fits hr hb)]
    exact (nodes_tabled s.pms).mapPut_writes r hp he hr m.nodes hv hn
  · exact (segs_tabled s.pms).mapPut_writes r hp he hr m.segs hv fun j _ _ => not_clashes_false _ j
  · exact (routes_tabled s.pms).mapPut_writes r hp he hr m.routes hv fun j _ _ => not_clashes_false _ j
  · rw [← mapRange_const _ (fits hr hb)]
    exact (areas_tabled s.pms).mapPut_writes r hp he hr m.areas hv fun j _ _ => not_clashes_false _ j
  · rw [← mapRange_overwritten _ (fits hr hb)]
    exact (zones_tabled s.pms).mapPut_writes r hp he hr m.zones hv fun j _ _ => not_clashes_false _ j
  · rw [← mapRange_const _ (fits hr hb)]
    exact (gates_tabled s.pms).mapPut_writes r hp he hr m.gates hv hn
  · exact (media_tabled s.pms).mapPut_writes r hp he hr m.media hv fun j _ _ => not_clashes_false _ j

/-- Settles O15: the range checks one by one, then the entries by `Tabled.mapPut_bad` and `Tabled.mapPut_clash`. -/
theorem mapPutRefused : Obligations.MapPutRefused := by
  unfold Obligations.MapPutRefused
  intro tag s r
  refine ⟨fun table first count body h => mapPut_closed r h, fun hp => ⟨fun table first count body h => mapPut_noTable r hp h,
    fun table size first count body h hc hs => ?_, ?_, fun i j es hl hr hv hi hj hc hn => ?_, fun i j es hl hr hv hi hj hc hn => ?_,
    fun first body hn ha hz hg => ?_⟩⟩
  · obtain ⟨ht, rfl⟩ := tableSize_iff.1 h
    have index : (if first < tableSize table then tableSize table else first) = max first (tableSize table) := by split <;> omega
    rw [index]
    exact mapPut_beyond r hp ht hc hs
  · exact ⟨(nodes_tabled s.pms).mapPut_bad r hp, (segs_tabled s.pms).mapPut_bad r hp, (routes_tabled s.pms).mapPut_bad r hp,
      (areas_tabled s.pms).mapPut_bad r hp, (zones_tabled s.pms).mapPut_bad r hp, (gates_tabled s.pms).mapPut_bad r hp,
      (media_tabled s.pms).mapPut_bad r hp⟩
  · exact (nodes_tabled s.pms).mapPut_clash r hp hl hr hv hi hj hc hn
  · exact (gates_tabled s.pms).mapPut_clash r hp hl hr hv hi hj hc hn
  · rw [← mapRange_all hn, ← mapRange_all ha, ← mapRange_all hz, ← mapRange_all hg]
    exact ⟨mapPut_clears r hp (by decide), mapPut_clears r hp (by decide), mapPut_clears r hp (by decide),
      mapPut_clears r hp (by decide), mapPut_clears r hp (by decide), mapPut_clears r hp (by decide),
      mapPut_clears r hp (by decide), mapPut_clears r hp (by decide)⟩

/-- Settles O16: a table's bytes are its marked entries, and taking a range of them is marking that range. -/
theorem mapGetReads : Obligations.MapGetReads := by
  unfold Obligations.MapGetReads
  intro tag i n s r
  dsimp only
  have gets {α : Type} (table : Nat) (ht : table ≤ 7) (entries : List (Option α)) {encode : α → List Byte}
      {marked : Option α → List Byte} (e : tableBytes s.pms table = entries.map (markedEntry encode))
      (m : ∀ o, markedEntry encode o = marked o) (hi : i < tableSize table) (hn : 0 < n) :
      exec (.mapGet tag table i n) s = .next (replied 0x44 tag .done false
        (list8 (fitting 117 (((entries.drop i).take n).map marked))) (heard s)) := by
    rw [mapGet_reads r ht hi hn, e, ← funext m, List.map_take, List.map_drop]
  refine ⟨gets 0 (by decide) [s.pms.params] rfl ?_, gets 1 (by decide) s.pms.nodes rfl ?_, gets 2 (by decide) s.pms.segs rfl ?_,
    gets 3 (by decide) s.pms.routes rfl ?_, gets 4 (by decide) s.pms.areas rfl ?_, gets 5 (by decide) s.pms.zones rfl ?_,
    gets 6 (by decide) s.pms.gates rfl ?_, gets 7 (by decide) s.pms.media rfl ?_, fun table h => mapGet_refused r ?_⟩
  case refine_9 =>
    rcases h with h | h | ⟨size, h, hi⟩
    · exact .inr (.inr h)
    · exact .inl h
    · exact .inr (.inl ((tableSize_iff.1 h).2.trans_le hi))
  all_goals
    intro o
    cases o <;> rfl

end Sys2Proof.Machine
end

section
/-! SUPPORT. The request ARM: the map checks of R17 (SameCheck), the start of the gate test (R46), and the obligation
ArmRefusedOrTests. -/

namespace Sys2Proof.Machine

/-- The first line of the table that fails is the first check that fails (R17). -/
theorem find_failing {cs : List Check} {pre post : List ArmCheck} {a : ArmCheck} (h : List.Forall₂ SameCheck cs (pre ++ a :: post))
    (hp : ∀ x ∈ pre, x.holds) (ha : ¬a.holds) : ∃ c, (cs.find? fun c => !c.holds) = some c ∧ SameCheck c a := by
  induction pre generalizing cs with
  | nil =>
    cases h with
    | @cons c _ _ _ same _ =>
      obtain ⟨-, -, -, holds⟩ := id same
      have fails : c.holds = false := by simpa using mt holds.1 ha
      exact ⟨c, by simp [fails], same⟩
  | cons x xs ih =>
    cases h with
    | @cons c _ _ _ same rest =>
      obtain ⟨-, -, -, holds⟩ := same
      have ok : c.holds = true := holds.2 (hp x (List.mem_cons_self ..))
      obtain ⟨d, hd, hs⟩ := ih rest fun y hy => hp y (List.mem_cons_of_mem x hy)
      exact ⟨d, by simpa [ok] using hd, hs⟩

theorem validate_none {m : MapStore} (h : ∀ c ∈ armTable m, c.holds) : validate m = none := by
  unfold validate
  generalize mapChecks m = cs, armTable m = as, mapChecks_same m = same at h
  induction same with
  | nil => rfl
  | cons same _ ih =>
    obtain ⟨-, -, -, holds⟩ := same
    simpa [holds.2 (h _ (List.mem_cons_self ..))] using ih fun a ha => h a (List.mem_cons_of_mem _ ha)

theorem performArm_refused {tag : Byte} {s : State} {c : Check} (hp : s.rcv.path = .config) (hm : s.spm.pendingMark = false)
    (hv : validate s.pms = some c) : performArm tag s = refuseMap tag c.table c.index c.code s := by
  simp [performArm, hp, hm, hv]

theorem performArm_tests {tag : Byte} {s : State} (hp : s.rcv.path = .config) (hm : s.spm.pendingMark = false)
    (ht : ∀ c ∈ armTable s.pms, c.holds) :
    performArm tag s = advanceTest tag (definedEntries s.pms.gates) (replyLater kARM tag s) := by
  simp [performArm, hp, hm, validate_none ht]

theorem arm_answered {tag : Byte} {s : State} (r : Ready s) {u : State} (e : performArm tag (heard s) = u) (q : Settled u) :
    exec (.arm tag) s = .next u :=
  congrArg Host.Outcome.next ((takeRequest_plain r (by rw [e]; exact q)).trans e)

/-- The start of the gate test: position 1 is commanded, and position 0 when the reading shows 1 already (R43, R46). -/
theorem advanceTest_cons {tag : Byte} {g : Nat} {e : GateEntry} {rest : List (Nat × GateEntry)} {s : State}
    (h : g < s.zdu.gates.length) : advanceTest tag ((g, e) :: rest) s =
      if readingOf s e then setArmTest (some ⟨tag, g, false⟩)
        (setGate g { gateAt s g with cmd := some false, status := .moving, timer := 0, expired := false, faulted := false } s)
      else setArmTest (some ⟨tag, g, true⟩)
        (setGate g { gateAt s g with cmd := some true, status := .moving, timer := 0, expired := false } s) := by
  have still (v : GateState) : readingOf (setGate g v s) e = readingOf s e := rfl
  cases hr : readingOf s e with
  | false =>
    simp [advanceTest, commandGate, commanded, confirmedAt, hr, gateAt_setGate h]
  | true =>
    simp [advanceTest, commandGate, commanded, confirmedAt, hr, still, gateAt_setGate h, setGate_setGate]

/-- Settles O17: the first failing check is the first failing line (`find_failing`), and a valid map starts the gate test
(`advanceTest_cons`). -/
theorem armRefusedOrTests : Obligations.ArmRefusedOrTests := by
  unfold Obligations.ArmRefusedOrTests
  intro tag s r
  have q := r.settled_heard
  refine ⟨fun hp => ?_, fun hp hm => ?_, fun pre c post hp hm ht hpre hc => ?_, fun g e rest hp hm ht hg hl => ?_⟩
  · exact arm_answered r (if_pos hp) q
  · exact arm_answered r ((if_neg (not_not.2 hp)).trans (if_pos hm)) q
  · obtain ⟨d, hd, h1, h2, h3, -⟩ := find_failing (ht ▸ mapChecks_same s.pms) hpre hc
    rw [← h1, ← h2, ← h3]
    exact arm_answered r (performArm_refused hp hm hd) q
  · refine arm_answered r ((performArm_tests (s := heard s) hp hm ht).trans ?_) (by split <;> exact q)
    exact (congrArg (fun l => advanceTest tag l (replyLater kARM tag (heard s))) hg).trans (advanceTest_cons hl)

end Sys2Proof.Machine
end

section
/-! SUPPORT. The end of ARM (R23, R27, R28, R98): what it makes of each SENSOR node, the notices it sends, the entry to ARMED or to
CLEARING, and the obligation ArmDecides. -/

namespace Sys2Proof.Machine

/-! ## What the clearance and the notices move -/

/-- `t` is `s` but for the clearance block and the notice queue. -/
def Aside (s t : State) : Prop := ∃ c ns l, t = { s with clm := c, clk := { s.clk with notices := ns, lost := l } }

namespace Aside

variable {s t u : State}

theorem refl (s : State) : Aside s s := ⟨_, _, _, rfl⟩

theorem trans (h : Aside s t) (k : Aside t u) : Aside s u := by
  obtain ⟨_, _, _, rfl⟩ := h
  obtain ⟨_, _, _, rfl⟩ := k
  exact ⟨_, _, _, rfl⟩

theorem foldl {α : Type} {f : State → α → State} (h : ∀ s x, Aside s (f s x)) (l : List α) (s : State) :
    Aside s (l.foldl f s) := by
  induction l generalizing s with
  | nil => exact .refl s
  | cons x xs ih => exact (h s x).trans (ih _)

theorem setNode (h : Aside s t) (n : Nat) (v : NodeState) : Aside (setNode n v s) (setNode n v t) := by
  obtain ⟨_, _, _, rfl⟩ := h
  exact ⟨_, _, _, rfl⟩

theorem setArmTest (h : Aside s t) (v : Option ArmTest) : Aside (setArmTest v s) (setArmTest v t) := by
  obtain ⟨_, _, _, rfl⟩ := h
  exact ⟨_, _, _, rfl⟩

theorem nodeAt (h : Aside s t) (n : Nat) : nodeAt t n = nodeAt s n := by
  obtain ⟨_, _, _, rfl⟩ := h
  rfl

theorem pms (h : Aside s t) : t.pms = s.pms := by
  obtain ⟨_, _, _, rfl⟩ := h
  rfl

theorem flt (h : Aside s t) : t.flt = s.flt := by
  obtain ⟨_, _, _, rfl⟩ := h
  rfl

end Aside

theorem post_aside (n : Notice) (s : State) : Aside s (post n s) := by
  unfold post
  split <;> exact ⟨_, _, _, rfl⟩

theorem makeDue_aside (a : Nat) (s : State) : Aside s (makeDue a s) := by
  unfold makeDue
  split
  · exact .refl s
  · exact ⟨_, _, _, rfl⟩

theorem dueIfBare_aside (a : Nat) (s : State) : Aside s (dueIfBare a s) := by
  unfold dueIfBare
  split
  · exact makeDue_aside a s
  · exact .refl s

theorem levelEvent_aside (n : Nat) (l : Level) (s : State) : Aside s (levelEvent n l s) := by
  unfold levelEvent
  split
  · split
    · exact dueIfBare_aside _ s
    · exact .refl s
  · exact .refl s

/-- With no sheet in the list, a node's failure reaches the clearance alone (R29). -/
theorem nodeFailed_aside (n : Nat) {s : State} (h : s.flt.list = []) : Aside s (nodeFailed n s) := by
  have same : failNodeRecords n s = s := by simp [failNodeRecords, sheetsOf, h]
  unfold nodeFailed
  rw [same]
  dsimp only
  split
  · exact dueIfBare_aside _ s
  · exact .refl s

theorem listArea_aside (s : State) (a : Nat) : Aside s (listArea s a) := by
  have listed : Aside s (areaNotice a .listed none (setClearance (insertArea s.pms a s.clm.list) (setArea a ⟨.needed, 0⟩ s))) :=
    Aside.trans ⟨_, _, _, rfl⟩ (post_aside _ _)
  unfold listArea
  split
  · exact .refl s
  · dsimp only
    split
    · exact listed.trans (makeDue_aside a _)
    · exact listed

/-! ## One node at ARM -/

theorem HealthTable.arm_eq {judge : Health → Setting → Nat → Health} (h : HealthTable judge) (q : Health) (b : Nat) :
    judge q .arm b = healthAfter q .arm b := by
  unfold healthAfter
  cases q with
  | ok =>
    dsimp only
    split
    · exact h.fails .ok _ b (by decide) ‹_›
    · split
      · exact h.falls _ b (by omega) (by omega)
      · exact h.ok _ b (by omega)
  | degraded =>
    dsimp only
    split
    · exact h.fails .degraded _ b (by decide) ‹_›
    · split
      · exact h.stays _ b (by omega) (by omega)
      · exact h.recovers _ b (by omega)
  | failed => exact h.arm b

/-- A node after ARM: its baseline and health, then its level at once (R23, R27). -/
def armedNode (m : MapStore) (e : NodeEntry) (q : NodeState) : NodeState :=
  let q := withBaseline (e.clearLevel.getD 0) .arm q
  { q with level := levelNow m q, run := 0 }

/-- The notice of a node's health at ARM (R28). -/
def armNotice (s : State) (p : Nat × NodeEntry) : Option Notice :=
  let b := p.2.clearLevel.getD 0
  sensorNotice s .arm p.1 b (healthAfter (nodeAt s p.1).health .arm b)

theorem setBaseline_aside (n b : Nat) (k : Setting) {s : State} (h : s.flt.list = []) :
    Aside (setNode n (withBaseline b k (nodeAt s n)) s) (setBaseline n b k s) := by
  unfold setBaseline
  dsimp only
  split
  · exact .refl _
  · have told := post_aside (.sensor n (nodeAt s n).health (withBaseline b k (nodeAt s n)).health b k)
      (setNode n (withBaseline b k (nodeAt s n)) s)
    split
    · exact told.trans (nodeFailed_aside n (by rw [told.flt]; exact h))
    · exact told

theorem setLevelNow_aside (n : Nat) (s : State) :
    Aside (setNode n { nodeAt s n with level := levelNow s.pms (nodeAt s n), run := 0 } s) (setLevelNow n s) := by
  unfold setLevelNow
  dsimp only
  split
  · exact levelEvent_aside ..
  · exact .refl _

theorem armNode_aside {s : State} {p : Nat × NodeEntry} (h : s.flt.list = []) (hn : p.1 < s.sfe.nodes.length) :
    Aside (setNode p.1 (armedNode s.pms p.2 (nodeAt s p.1)) s) (armNode s p) := by
  have based := setBaseline_aside p.1 (p.2.clearLevel.getD 0) .arm h
  have node := (based.nodeAt p.1).trans (nodeAt_setNode hn)
  have levelled := setLevelNow_aside p.1 (setBaseline p.1 (p.2.clearLevel.getD 0) .arm s)
  rw [node, based.pms] at levelled
  refine Aside.trans ?_ levelled
  have set := based.setNode p.1 (armedNode s.pms p.2 (nodeAt s p.1))
  rw [setNode_setNode] at set
  exact set

/-! ## The notices of ARM -/

theorem makeDue_clk (a : Nat) (s : State) : (makeDue a s).clk = s.clk := by
  unfold makeDue
  split <;> rfl

theorem dueIfBare_clk (a : Nat) (s : State) : (dueIfBare a s).clk = s.clk := by
  unfold dueIfBare
  split
  · exact makeDue_clk a s
  · rfl

theorem setLevelNow_clk (n : Nat) (s : State) : (setLevelNow n s).clk = s.clk := by
  unfold setLevelNow levelEvent
  dsimp only
  split
  · split
    · split
      · rw [dueIfBare_clk, setNode_clk]
      · rfl
    · rfl
  · rfl

theorem nodeFailed_clk (n : Nat) {s : State} (h : s.flt.list = []) : (nodeFailed n s).clk = s.clk := by
  have same : failNodeRecords n s = s := by simp [failNodeRecords, sheetsOf, h]
  unfold nodeFailed
  rw [same]
  dsimp only
  split
  · exact dueIfBare_clk _ s
  · rfl

theorem setBaseline_notices {n b : Nat} {k : Setting} {s : State} (h : s.flt.list = []) {o : Option Notice}
    (ho : sensorNotice s k n b (healthAfter (nodeAt s n).health k b) = o) (hr : Room o.toList.length s) :
    (setBaseline n b k s).clk.notices = s.clk.notices ++ o.toList := by
  subst ho
  unfold sensorNotice at hr ⊢
  unfold setBaseline
  by_cases hc : healthAfter (nodeAt s n).health k b = (nodeAt s n).health
  · simp [withBaseline, hc]
  · have room : Room 1 s := by simpa [hc] using hr
    have told : (post (.sensor n (nodeAt s n).health (withBaseline b k (nodeAt s n)).health b k)
        (setNode n (withBaseline b k (nodeAt s n)) s)).clk.notices =
          s.clk.notices ++ [.sensor n (nodeAt s n).health (healthAfter (nodeAt s n).health k b) b k] := by
      rw [post_room (s := setNode n _ s) _ room]
      rfl
    have changed : (withBaseline b k (nodeAt s n)).health ≠ (nodeAt s n).health := hc
    dsimp only
    rw [if_neg changed, if_neg hc, Option.toList_some, ← told]
    split
    · rw [nodeFailed_clk]
      rw [(post_aside _ _).flt]
      exact h
    · rfl

theorem armNode_notices {s : State} {p : Nat × NodeEntry} (h : s.flt.list = []) (hr : Room (armNotice s p).toList.length s) :
    (armNode s p).clk.notices = s.clk.notices ++ (armNotice s p).toList := by
  unfold armNode
  rw [setLevelNow_clk]
  exact setBaseline_notices h rfl hr

/-! ## All nodes at ARM -/

/-- `t` is `s` but for the states of the nodes, the clearance block and the notice queue. -/
def Levelled (s t : State) : Prop :=
  ∃ q, q.length = s.sfe.nodes.length ∧ Aside { s with sfe := { s.sfe with nodes := q } } t

namespace Levelled

variable {s t u : State}

theorem refl (s : State) : Levelled s s := ⟨s.sfe.nodes, rfl, .refl s⟩

theorem trans (h : Levelled s t) (k : Levelled t u) : Levelled s u := by
  obtain ⟨_, hq, _, _, _, rfl⟩ := h
  obtain ⟨q, hr, _, _, _, rfl⟩ := k
  exact ⟨q, hr.trans hq, _, _, _, rfl⟩

theorem list (h : Levelled s t) : t.flt = s.flt := by
  obtain ⟨_, _, _, _, _, rfl⟩ := h
  rfl

theorem pms (h : Levelled s t) : t.pms = s.pms := by
  obtain ⟨_, _, _, _, _, rfl⟩ := h
  rfl

theorem nodes (h : Levelled s t) : t.sfe.nodes.length = s.sfe.nodes.length := by
  obtain ⟨_, hq, _, _, _, rfl⟩ := h
  exact hq

end Levelled

section Nodes

variable {s : State} {p : Nat × NodeEntry} (h : s.flt.list = []) (hn : p.1 < s.sfe.nodes.length)
include h hn

theorem armNode_levelled : Levelled s (armNode s p) := ⟨_, List.length_set, armNode_aside h hn⟩

theorem armNode_nodeAt : nodeAt (armNode s p) p.1 = armedNode s.pms p.2 (nodeAt s p.1) :=
  ((armNode_aside h hn).nodeAt p.1).trans (nodeAt_setNode hn)

theorem armNode_nodeAt_ne {n : Nat} (hne : p.1 ≠ n) : nodeAt (armNode s p) n = nodeAt s n :=
  ((armNode_aside h hn).nodeAt n).trans (nodeAt_setNode_ne hne)

theorem armNotice_armNode {x : Nat × NodeEntry} (hne : p.1 ≠ x.1) : armNotice (armNode s p) x = armNotice s x := by
  simp only [armNotice, sensorNotice, armNode_nodeAt_ne h hn hne]

end Nodes

section All

variable {l : List (Nat × NodeEntry)} {s : State}

theorem armNodes_levelled (h : s.flt.list = []) (hn : ∀ p ∈ l, p.1 < s.sfe.nodes.length) : Levelled s (l.foldl armNode s) := by
  induction l generalizing s with
  | nil => exact .refl s
  | cons p l ih =>
    have step := armNode_levelled h (hn p (List.mem_cons_self ..))
    refine step.trans (ih (step.list ▸ h) fun x hx => ?_)
    rw [step.nodes]
    exact hn x (List.mem_cons_of_mem p hx)

theorem armNodes_nodeAt_ne {n : Nat} (h : s.flt.list = []) (hn : ∀ p ∈ l, p.1 < s.sfe.nodes.length) (hne : ∀ p ∈ l, p.1 ≠ n) :
    nodeAt (l.foldl armNode s) n = nodeAt s n := by
  induction l generalizing s with
  | nil => rfl
  | cons p l ih =>
    have step := armNode_levelled h (hn p (List.mem_cons_self ..))
    rw [List.foldl_cons, ih (step.list ▸ h) (fun x hx => step.nodes ▸ hn x (List.mem_cons_of_mem p hx))
      fun x hx => hne x (List.mem_cons_of_mem p hx)]
    exact armNode_nodeAt_ne h (hn p (List.mem_cons_self ..)) (hne p (List.mem_cons_self ..))

theorem armNodes_nodeAt {p : Nat × NodeEntry} (h : s.flt.list = []) (hn : ∀ p ∈ l, p.1 < s.sfe.nodes.length)
    (hd : l.Pairwise fun a b => a.1 ≠ b.1) (hp : p ∈ l) :
    nodeAt (l.foldl armNode s) p.1 = armedNode s.pms p.2 (nodeAt s p.1) := by
  induction l generalizing s with
  | nil => cases hp
  | cons x l ih =>
    obtain ⟨first, rest⟩ := List.pairwise_cons.1 hd
    have hx := hn x (List.mem_cons_self ..)
    have step := armNode_levelled h hx
    have hl : ∀ p ∈ l, p.1 < (armNode s x).sfe.nodes.length := fun y hy => step.nodes ▸ hn y (List.mem_cons_of_mem x hy)
    rcases List.mem_cons.1 hp with rfl | hp
    · rw [List.foldl_cons, armNodes_nodeAt_ne (step.list ▸ h) hl fun y hy => (first y hy).symm]
      exact armNode_nodeAt h hx
    · rw [List.foldl_cons, ih (step.list ▸ h) hl rest hp, step.pms, armNode_nodeAt_ne h hx (first p hp)]

theorem armNodes_notices (h : s.flt.list = []) (hn : ∀ p ∈ l, p.1 < s.sfe.nodes.length) (hd : l.Pairwise fun a b => a.1 ≠ b.1)
    (hr : Room (l.filterMap (armNotice s)).length s) :
    (l.foldl armNode s).clk.notices = s.clk.notices ++ l.filterMap (armNotice s) := by
  induction l generalizing s with
  | nil => simp
  | cons x l ih =>
    obtain ⟨first, rest⟩ := List.pairwise_cons.1 hd
    have hx := hn x (List.mem_cons_self ..)
    have step := armNode_levelled h hx
    have split : (x :: l).filterMap (armNotice s) = (armNotice s x).toList ++ l.filterMap (armNotice s) := by
      cases ho : armNotice s x <;> simp [ho]
    have same : l.filterMap (armNotice (armNode s x)) = l.filterMap (armNotice s) :=
      List.filterMap_congr fun y hy => armNotice_armNode h hx (first y hy)
    unfold Room at hr
    rw [split, List.length_append] at hr
    have told := armNode_notices h (p := x) (show Room _ s by unfold Room; omega)
    have room : Room (l.filterMap (armNotice (armNode s x))).length (armNode s x) := by
      unfold Room
      rw [told, same, List.length_append]
      omega
    rw [List.foldl_cons, ih (step.list ▸ h) (fun y hy => step.nodes ▸ hn y (List.mem_cons_of_mem x hy)) rest room, same, told,
      split, List.append_assoc]

end All

theorem sensorNodes_distinct (m : MapStore) : (sensorNodes m).Pairwise fun a b => a.1 ≠ b.1 := by
  refine List.Pairwise.filter _ (List.pairwise_filterMap.2 (List.nodup_range.imp fun hne a ha b hb => ?_))
  obtain ⟨_, -, rfl⟩ := Option.map_eq_some_iff.1 ha
  obtain ⟨_, -, rfl⟩ := Option.map_eq_some_iff.1 hb
  exact hne

theorem mem_sensorNodes {m : MapStore} {n : Nat} {e : NodeEntry} :
    (n, e) ∈ sensorNodes m ↔ m.node? n = some e ∧ e.kind = .sensor := by
  simp [sensorNodes, List.mem_filter, mem_definedEntries, MapStore.node?]

theorem entryAt_lt {α : Type} {t : List (Option α)} {i : Nat} {e : α} (h : entryAt t i = some e) : i < t.length := by
  by_contra hn
  simp [entryAt, List.getElem?_eq_none (Nat.le_of_not_lt hn)] at h

/-! ## The state whose nodes ARM has set -/

/-- `v` is `s` with its SENSOR nodes set and their notices told; the path is still as it was (R23, R27, R28). -/
structure NodesArmed (s v : State) : Prop where
  pms : v.pms = s.pms
  flt : v.flt = s.flt
  rpq : v.rpq = s.rpq
  xlm : v.xlm = s.xlm
  pins : v.pins = (heard s).pins
  rcv : v.rcv = s.rcv
  sys : v.sys = s.sys
  zones : v.zdu.zones = s.zdu.zones
  covers : v.sfe.covers = s.sfe.covers
  node : ∀ n e, s.pms.node? n = some e → e.kind = .sensor → nodeAt v n = armedNode s.pms e (nodeAt s n)
  told : Room ((sensorNodes s.pms).filterMap (armNotice s)).length s →
    v.clk.notices = s.clk.notices ++ (sensorNodes s.pms).filterMap (armNotice s)

/-- The state in which ARM decides (R98): `s` has heard the request, the reply is being formed, and the nodes are set. -/
def armLevelled (tag : Byte) (s : State) : State :=
  setArmTest none ((sensorNodes s.pms).foldl armNode (replyLater kARM tag (heard s)))

theorem armLevelled_armed {tag : Byte} {s : State} (h : s.flt.list = []) (hs : s.sfe.nodes.length = 32)
    (hp : s.pms.nodes.length = 32) : NodesArmed s (armLevelled tag s) := by
  have small : ∀ p ∈ sensorNodes s.pms, p.1 < (replyLater kARM tag (heard s)).sfe.nodes.length := fun p hm =>
    (entryAt_lt (mem_sensorNodes.1 hm).1).trans_eq (hp.trans hs.symm)
  have distinct := sensorNodes_distinct s.pms
  have told := armNodes_notices (s := replyLater kARM tag (heard s)) h small distinct
  have node := fun n e (hn : s.pms.node? n = some e) (hk : e.kind = .sensor) =>
    armNodes_nodeAt (s := replyLater kARM tag (heard s)) (p := (n, e)) h small distinct (mem_sensorNodes.2 ⟨hn, hk⟩)
  obtain ⟨q, -, c, ns, l, e⟩ := armNodes_levelled (s := replyLater kARM tag (heard s)) h small
  unfold armLevelled
  refine ⟨?_, ?_, ?_, ?_, ?_, ?_, ?_, ?_, ?_, node, told⟩ <;> rw [e] <;> rfl

theorem NodesArmed.coverOf {s v : State} (h : NodesArmed s v) (a : Nat) : coverOf v a = coverOf s a := by
  simp only [Machine.coverOf, sourceOpen, stationAt, h.pms, h.covers, h.xlm]

/-- The level that ARM gives a node from its latest sample (R23). -/
theorem armedNode_level {m : MapStore} {e : NodeEntry} {q : NodeState} {p : Params} {x : Nat} (hp : m.params = some p)
    (hx : q.latest = some x) : (armedNode m e q).level =
      if healthAfter q.health .arm (e.clearLevel.getD 0) = .failed then .unset
      else if e.clearLevel.getD 0 * p.clearPct / 100 < x then .clear else .covered := by
  simp [armedNode, withBaseline, levelNow, levelsOf, hp, hx]

/-! ## The first cause of ARM -/

theorem covered_iff {s : State} {n : Nat} {e : NodeEntry} (h : (n, e) ∈ sensorNodes s.pms) :
    covered s n = true ↔ (nodeAt s n).level = .covered := by
  obtain ⟨hn, hk⟩ := mem_sensorNodes.1 h
  simp [covered, nodeKind, hn, hk]

/-- No SENSOR node reads COVERED. -/
def AllClear (s : State) : Prop := ∀ n e, s.pms.node? n = some e → e.kind = .sensor → (nodeAt s n).level ≠ .covered

theorem find_covered_none {s : State} : ((sensorNodes s.pms).map (·.1)).find? (covered s) = none ↔ AllClear s := by
  rw [List.find?_eq_none]
  constructor
  · intro h n e hn hk
    have hm := mem_sensorNodes.2 ⟨hn, hk⟩
    exact mt (covered_iff hm).2 (h n (List.mem_map_of_mem hm))
  · intro h n hn
    obtain ⟨⟨_, e⟩, hm, rfl⟩ := List.mem_map.1 hn
    obtain ⟨hn, hk⟩ := mem_sensorNodes.1 hm
    exact mt (covered_iff hm).1 (h _ e hn hk)

theorem openAreas_empty {s : State} : (openAreas s).isEmpty = true ↔ ∀ a < 12, coverOf s a ≠ some true := by
  simp [openAreas, areaSet]

theorem armJam_none {s : State} : armJam s = none ↔ AllClear s ∧ ∀ a < 12, coverOf s a ≠ some true := by
  rw [← find_covered_none, ← openAreas_empty]
  unfold armJam
  split
  · simp [*]
  · simp [*]

theorem armJam_cover {s : State} {j : JamRecord} (h : AllClear s) (hj : armJam s = some j) :
    j = ⟨some (causeNow s .cover none none none none none), none, openAreas s⟩ := by
  unfold armJam at hj
  rw [find_covered_none.2 h] at hj
  dsimp only at hj
  split at hj
  · cases hj
  · exact (Option.some.inj hj).symm

theorem armJam_residual {s : State} {n : Nat} {e : NodeEntry} {pre post : List (Nat × NodeEntry)}
    (h : sensorNodes s.pms = pre ++ (n, e) :: post) (hp : ∀ x ∈ pre, (nodeAt s x.1).level ≠ .covered)
    (hn : (nodeAt s n).level = .covered) :
    armJam s = some ⟨some (residualAt s n), none, unionAreas (nodeAreas s.pms n) (openAreas s)⟩ := by
  have before : (pre.map (·.1)).find? (covered s) = none := by
    rw [List.find?_eq_none]
    intro k hk
    obtain ⟨x, hx, rfl⟩ := List.mem_map.1 hk
    exact mt (covered_iff (h ▸ List.mem_append_left _ hx)).1 (hp x hx)
  have here : covered s n = true := (covered_iff (h ▸ List.mem_append_right _ (List.mem_cons_self ..))).2 hn
  have first : ((sensorNodes s.pms).map (·.1)).find? (covered s) = some n := by
    rw [h, List.map_append, List.map_cons, List.find?_append, before, Option.none_or, List.find?_cons_of_pos here]
  unfold armJam
  rw [first]

theorem armJam_first {s : State} {j : JamRecord} (h : armJam s = some j) : ∃ c, j.first = some c := by
  unfold armJam at h
  split at h
  · cases h
    exact ⟨_, rfl⟩
  · split at h
    · cases h
    · cases h
      exact ⟨_, rfl⟩

/-! ## The entry to ARMED or CLEARING -/

/-- What the end of ARM leaves of the state in which it decides. -/
structure Entered (v t : State) : Prop where
  pms : t.pms = v.pms
  flt : t.flt = v.flt
  rpq : t.rpq = v.rpq
  xlm : t.xlm = v.xlm
  pins : t.pins = v.pins
  sfe : t.sfe = v.sfe
  moment : t.rcv.moment = v.rcv.moment
  notices : v.clk.notices <+: t.clk.notices

theorem armedEntered_spm (s : State) : ∃ p, armedEntered s = { s with spm := p } := by
  unfold armedEntered
  split
  · exact ⟨_, rfl⟩
  · exact ⟨_, rfl⟩

theorem enterArmed_entered (v : State) : Entered v (enterArmed v) := by
  obtain ⟨p, e⟩ := armedEntered_spm (setPath .armed v)
  unfold enterArmed
  rw [e]
  exact ⟨rfl, rfl, rfl, rfl, rfl, rfl, rfl, List.prefix_refl _⟩

theorem holdPositions_empty {s : State} (h : s.flt.list = []) :
    ∃ tr, holdPositions s = { s with rcv := { s.rcv with holdTravel := tr } } := by
  have same : setList (s.flt.list.map fun r => { r with leadExp := none, trailExp := none }) s = s := by
    have empty : (s.flt.list.map fun r => { r with leadExp := none, trailExp := none }) = s.flt.list := by simp [h]
    rw [empty]
    rfl
  unfold holdPositions
  rw [same]
  dsimp only
  split
  · exact ⟨s.rcv.holdTravel, rfl⟩
  · exact ⟨s.rcv.holdTravel, rfl⟩
  · exact ⟨_, rfl⟩

/-- The entry to CLEARING at ARM with no sheet in the list (R98, R102, R122). -/
theorem armClears_eq {j : JamRecord} {v : State} (h : v.flt.list = []) : ∃ tr, Aside
    { v with zdu := (haltZones v).zdu, rcv := { v.rcv with path := .clearing, jam := j, holdTravel := tr } } (armClears j v) := by
  have told := post_aside (.jam false j) (haltZones (setJam j v))
  obtain ⟨tr, e⟩ := holdPositions_empty (s := post (.jam false j) (haltZones (setJam j v))) (by rw [told.flt]; exact h)
  unfold armClears enterClearing
  rw [e]
  obtain ⟨c, ns, l, e⟩ := told
  rw [e]
  exact ⟨tr, Aside.trans ⟨_, _, _, rfl⟩ (Aside.foldl listArea_aside _ _)⟩

theorem armClears_entered {j : JamRecord} {v : State} (h : v.flt.list = []) : Entered v (armClears j v) := by
  have told := (armClears_ordinary j v).notices
  obtain ⟨tr, c, ns, l, e⟩ := armClears_eq (j := j) h
  rw [e] at told ⊢
  exact ⟨rfl, rfl, rfl, rfl, rfl, rfl, rfl, told⟩

theorem armClears_halts {j : JamRecord} {v : State} (h : v.flt.list = []) :
    (armClears j v).rcv.path = .clearing ∧ (armClears j v).rcv.jam = j ∧
      ∀ q ∈ (armClears j v).zdu.zones, q.speed = 0 ∧ q.duty = 0 := by
  obtain ⟨tr, c, ns, l, e⟩ := armClears_eq (j := j) h
  rw [e]
  refine ⟨rfl, rfl, fun q hq => ?_⟩
  obtain ⟨_, -, rfl⟩ := List.mem_map.1 hq
  exact ⟨rfl, rfl⟩

theorem enterArmed_stands (v : State) :
    (enterArmed v).rcv.path = .armed ∧ (enterArmed v).rcv.jam = v.rcv.jam ∧ (enterArmed v).zdu = v.zdu ∧
      (enterArmed v).clk = v.clk := by
  obtain ⟨p, e⟩ := armedEntered_spm (setPath .armed v)
  unfold enterArmed
  rw [e]
  exact ⟨rfl, rfl, rfl, rfl⟩

/-- ARM with no gate to test decides at once: ARMED with no first cause, CLEARING with one (R98). -/
theorem arm_decides {tag : Byte} {s : State} (r : Ready s) (hp : s.rcv.path = .config) (hm : s.spm.pendingMark = false)
    (ht : ∀ c ∈ armTable s.pms, c.holds) (hg : definedEntries s.pms.gates = []) {t : State}
    (e : armComplete tag (replyLater kARM tag (heard s)) = t) (q : Settled t) : exec (.arm tag) s = .next t := by
  refine arm_answered r ((performArm_tests (s := heard s) hp hm ht).trans ?_) q
  exact (congrArg (fun l => advanceTest tag l (replyLater kARM tag (heard s))) hg).trans e

theorem armLevelled_eq (tag : Byte) (s : State) :
    setArmTest none ((sensorNodes (replyLater kARM tag (heard s)).pms).foldl armNode (replyLater kARM tag (heard s))) =
      armLevelled tag s := rfl

theorem armComplete_armed {tag : Byte} {s : State} (h : armJam (armLevelled tag s) = none) :
    armComplete tag (replyLater kARM tag (heard s)) = replied 0x45 tag .done false [1, 0xFF] (enterArmed (armLevelled tag s)) := by
  obtain ⟨path, -⟩ := enterArmed_stands (armLevelled tag s)
  unfold armComplete
  dsimp only
  rw [armLevelled_eq, h]
  dsimp only
  rw [path]
  rfl

theorem armComplete_clears {tag : Byte} {s : State} {j : JamRecord} {c : JamCause} (hf : (armLevelled tag s).flt.list = [])
    (h : armJam (armLevelled tag s) = some j) (hc : j.first = some c) :
    armComplete tag (replyLater kARM tag (heard s)) =
      replied 0x45 tag .done false [5, BitVec.ofNat 8 c.cause.code] (armClears j (armLevelled tag s)) := by
  obtain ⟨path, -⟩ := armClears_halts (j := j) hf
  unfold armComplete
  dsimp only
  rw [armLevelled_eq, h]
  dsimp only
  rw [path, hc]
  rfl

/-- The nodes and notices of the state that ARM ends in: what is set before the path is decided stands (R23, R27, R28). -/
theorem Entered.settled {s v t : State} (h : Entered v t) (a : NodesArmed s v) (q : Settled s) : Settled t := by
  obtain ⟨touched, underway⟩ := q
  exact ⟨by rw [h.rpq, a.rpq, touched], by rw [h.moment, a.rcv, underway]⟩

theorem Entered.replied {v t : State} (h : Entered v t) (k tag : Byte) (st : Status) (c : Bool) (fs : List Byte) :
    Entered v (replied k tag st c fs t) := { h with }

theorem Entered.nodeAt {v t : State} (h : Entered v t) (n : Nat) : nodeAt t n = nodeAt v n := by
  simp only [Machine.nodeAt, h.sfe]

/-- The RESIDUAL of a covered node as ARM finds it: its latest sample against its clear level (R92). -/
theorem residualAt_armed {s v : State} {n : Nat} {e : NodeEntry} {p : Params} (h : NodesArmed s v) (hp : s.pms.params = some p)
    (hn : s.pms.node? n = some e) (hk : e.kind = .sensor) :
    residualAt v n = ⟨.residual, none, some n, nodeZone s.pms n, (nodeAt s n).latest.map (fun x => (x : Int)),
      some ((e.clearLevel.getD 0 * p.clearPct / 100 : Nat) : Int), s.sys.now⟩ := by
  simp [residualAt, causeNow, h.node n e hn hk, h.pms, h.sys, armedNode, withBaseline, levelsOf, hp]

theorem allClear_iff {s v : State} (h : NodesArmed s v) :
    AllClear v ↔ ∀ n e, s.pms.node? n = some e → e.kind = .sensor → (nodeAt v n).level ≠ .covered := by
  unfold AllClear
  rw [h.pms]

theorem openAreas_armed {s v : State} (h : NodesArmed s v) :
    openAreas v = (List.range 12).filter fun a => coverOf s a == some true := by
  simp only [openAreas, areaSet, h.coverOf]

theorem armNotice_eq {judge : Health → Setting → Nat → Health} (h : HealthTable judge) (s : State) : armNotice s = fun x =>
    let b := x.2.clearLevel.getD 0
    sensorNotice s .arm x.1 b (judge (nodeAt s x.1).health .arm b) := by
  funext x
  simp only [armNotice, h.arm_eq]

section Decides

variable {tag : Byte} {s : State} (r : Ready s) (hp : s.rcv.path = .config) (hm : s.spm.pendingMark = false)
  (ht : ∀ c ∈ armTable s.pms, c.holds) (hg : definedEntries s.pms.gates = []) {v : State} (hv : armLevelled tag s = v)
  (a : NodesArmed s v)
include r hp hm ht hg hv a

/-- ARM with no first cause (R98). -/
theorem arm_arms (h : armJam v = none) : ∃ t, exec (.arm tag) s = .next t ∧ Entered v t ∧ t.rcv.path = .armed ∧
    t.rcv.jam = v.rcv.jam ∧ t.zdu = v.zdu ∧ t.clk.notices = v.clk.notices ∧
    t.clk.reply = .formed ⟨0x45, tag, .done, false, [1, 0xFF]⟩ := by
  subst hv
  have ent := (enterArmed_entered (armLevelled tag s)).replied 0x45 tag .done false [1, 0xFF]
  obtain ⟨path, jam, zdu, clk⟩ := enterArmed_stands (armLevelled tag s)
  have step := arm_decides r hp hm ht hg (armComplete_armed h) (ent.settled a r.settled_heard)
  exact ⟨_, step, ent, path, jam, zdu, congrArg (·.notices) clk, rfl⟩

/-- ARM with a first cause (R98). -/
theorem arm_clears {j : JamRecord} (hf : v.flt.list = []) (h : armJam v = some j) : ∃ t c, exec (.arm tag) s = .next t ∧
    Entered v t ∧ t.rcv.path = .clearing ∧ t.rcv.jam = j ∧ (∀ q ∈ t.zdu.zones, q.speed = 0 ∧ q.duty = 0) ∧
    j.first = some c ∧ t.clk.reply = .formed ⟨0x45, tag, .done, false, [5, BitVec.ofNat 8 c.cause.code]⟩ := by
  subst hv
  obtain ⟨c, hc⟩ := armJam_first h
  have ent := (armClears_entered (j := j) hf).replied 0x45 tag .done false [5, BitVec.ofNat 8 c.cause.code]
  obtain ⟨path, jam, zones⟩ := armClears_halts (j := j) hf
  have step := arm_decides r hp hm ht hg (armComplete_clears hf h hc) (ent.settled a r.settled_heard)
  generalize armClears j (armLevelled tag s) = u at step ent path jam zones
  exact ⟨_, c, step, ent, path, jam, zones, hc, rfl⟩

end Decides

/-- The decision of ARM in the words of R98. -/
theorem armJam_armed {s v : State} (a : NodesArmed s v) : armJam v = none ↔
    (∀ n e, s.pms.node? n = some e → e.kind = .sensor → (nodeAt v n).level ≠ .covered) ∧
      ∀ a < 12, coverOf s a ≠ some true := by
  rw [armJam_none, allClear_iff a]
  simp only [a.coverOf]

/-- Settles O18: the nodes are set first (`NodesArmed`), then the first cause decides the path (`armJam`). -/
theorem armDecides : Obligations.ArmDecides := by
  unfold Obligations.ArmDecides
  intro tag p judge s hj r hp hm ht hpar hg hl hs hn
  have a := armLevelled_armed (tag := tag) hl hs hn
  generalize hv : armLevelled tag s = v at a
  have told := a.told
  rw [armNotice_eq hj] at told
  have node (n : Nat) (e : NodeEntry) (he : s.pms.node? n = some e) (hk : e.kind = .sensor) :
      let b := e.clearLevel.getD 0
      let h := judge (nodeAt s n).health .arm b
      (nodeAt v n).baseline = some b ∧ (nodeAt v n).health = h ∧
        (nodeAt v n).run = 0 ∧ ∀ x, (nodeAt s n).latest = some x → (nodeAt v n).level =
          if h = .failed then .unset else if b * p.clearPct / 100 < x then .clear else .covered := by
    dsimp only
    rw [a.node n e he hk, hj.arm_eq]
    exact ⟨rfl, rfl, rfl, fun x hx => armedNode_level hpar hx⟩
  cases h : armJam v with
  | none =>
    obtain ⟨t, step, ent, path, jam, zdu, notices, reply⟩ := arm_arms r hp hm ht hg hv a h
    refine ⟨t, step, ent.pms.trans a.pms, ent.flt.trans a.flt, ent.rpq.trans a.rpq, ent.xlm.trans a.xlm, ent.pins.trans a.pins, ?_⟩
    simp only [ent.nodeAt]
    refine ⟨node, fun room => ?_, iff_of_true path ((armJam_armed a).1 h), fun _ => ?_, fun unarmed => absurd path unarmed⟩
    · exact ⟨fun _ => notices.trans (told room), told room ▸ ent.notices⟩
    · exact ⟨(congrArg (·.zones) zdu).trans a.zones, jam.trans (congrArg (·.jam) a.rcv), reply⟩
  | some j =>
    obtain ⟨t, c, step, ent, path, jam, zones, first, reply⟩ := arm_clears r hp hm ht hg hv a (a.flt ▸ hl) h
    have unarmed : t.rcv.path ≠ .armed := by simp [path]
    have undecided := mt (armJam_armed a).2 (by simp [h])
    refine ⟨t, step, ent.pms.trans a.pms, ent.flt.trans a.flt, ent.rpq.trans a.rpq, ent.xlm.trans a.xlm, ent.pins.trans a.pins, ?_⟩
    simp only [ent.nodeAt]
    refine ⟨node, fun room => ⟨fun armed => absurd armed unarmed, told room ▸ ent.notices⟩, iff_of_false unarmed undecided,
      fun armed => absurd armed unarmed, fun _ => ⟨path, zones, c, jam ▸ first, reply, ?_, fun clear => ?_⟩⟩
    · intro n e pre post hsn hpre hcov
      obtain ⟨he, hk⟩ := mem_sensorNodes.1 (hsn ▸ List.mem_append_right pre (List.mem_cons_self ..))
      have residual := armJam_residual ((congrArg sensorNodes a.pms).trans hsn) hpre hcov
      rw [residualAt_armed a hpar he hk, a.pms, openAreas_armed a] at residual
      exact jam.trans (Option.some.inj (h.symm.trans residual))
    · have cover := armJam_cover ((allClear_iff a).2 clear) h
      rw [openAreas_armed a, causeNow, a.sys] at cover
      exact jam.trans cover

end Sys2Proof.Machine
end

section
/-! SUPPORT. The start of the part (R172, R173, R177), and the obligation StartTakesPins. -/

namespace Sys2Proof.Machine

/-- The rate code in the words of R177: the fallback where the straps agree. -/
theorem rateOf_eq (a b : Bool) : rateOf a b = if a = b then 0 else if b then 1 else 2 := by
  cases a <;> cases b <;> rfl

/-- A held part's START, with room for its notice (R172, R173). -/
theorem startPart_room {a b kept : Bool} {s : State} (room : Room 1 s) : startPart a b kept s =
    noticed [.start (causeOf s.sys.kind kept) (rateOf a b)
        (if markerComplete s.spm then some (readHeader (rowAt s.spm 1).bytes) else none)]
      { s with
        sfe := { s.sfe with covers := s.pins.covers, feedback := s.pins.feedback }
        spm := { s.spm with marker := markerComplete s.spm, pendingMark := markerComplete s.spm }
        clk := { s.clk with rate := rateOf a b, breakArmed := s.pins.rxHigh }
        sys := { s.sys with live := true, cause := causeOf s.sys.kind kept } } :=
  post_room _ room

/-- Settles O5: a started part takes no START, and a held part's is `startPart_room`, its rate code and its cause those of the
rules' tables. -/
theorem startTakesPins : Obligations.StartTakesPins := by
  unfold Obligations.StartTakesPins
  intro s a b kept
  refine ⟨fun live => congrArg Host.Outcome.next (if_pos live), fun held room => ?_⟩
  refine congrArg Host.Outcome.next ((if_neg (by simp [held])).trans ((startPart_room room).trans ?_))
  rw [rateOf_eq]
  unfold causeOf
  cases kept
  all_goals
    generalize s.sys.kind = k
    cases k <;> rfl

end Sys2Proof.Machine
end

section
/-! SUPPORT. What the queries answer (R33, R48, R72, R96, R132, R139, R163, R176, R182), and the obligation QueriesAnswer. -/

namespace Sys2Proof.Machine

section Query

variable {tag : Byte} {f : State → State} {s : State}

/-- A query that its block answers with fields leaves everything else as the request found it. -/
theorem query_done {fs : List Byte} (r : Ready s) (e : f (heard s) = done kQUERY tag fs (heard s)) :
    (.next (takeRequest kQUERY tag f s) : Host.Outcome State Fault Refusal) =
      .next (replied 0x4F tag .done false fs (heard s)) :=
  congrArg Host.Outcome.next (takeRequest_replied r e r.settled_heard)

theorem query_refused {why : Status} (r : Ready s) (e : f (heard s) = refuse kQUERY tag why (heard s)) :
    (.next (takeRequest kQUERY tag f s) : Host.Outcome State Fault Refusal) =
      .next (replied 0x4F tag why false [] (heard s)) :=
  congrArg Host.Outcome.next (takeRequest_replied r e r.settled_heard)

end Query

/-- The jam record's fields (R96). -/
theorem jamFields_eq (j : JamRecord) : jamFields j = if j.first = none then [1] else 0 :: encodeJam j := by
  cases h : j.first <;> simp [jamFields, h]

/-- The first record of a sheet number is found, at its place in the list. -/
theorem findRec_split {s : State} {n : Nat} {r : Record} {pre post : List Record} (h : s.flt.list = pre ++ r :: post)
    (hr : r.sheet = n) (hp : ∀ q ∈ pre, q.sheet ≠ n) : findRec s n = some r ∧ (sheetsOf s).idxOf n = pre.length := by
  subst hr
  refine ⟨?_, ?_⟩
  · unfold findRec
    rw [h, List.find?_append, List.find?_eq_none.2 (by simpa using hp)]
    simp
  · have away : r.sheet ∉ pre.map (·.sheet) := by simpa using hp
    simp [sheetsOf, h, List.idxOf_append_of_notMem away]

theorem findRec_none {s : State} {n : Nat} (h : ∀ r ∈ s.flt.list, r.sheet ≠ n) : findRec s n = none :=
  List.find?_eq_none.2 (by simpa using h)

/-- QUERY ZONES by part: the zones below 4, those from 4 on, the gates (R48). -/
theorem performQueryZones_eq (tag : Byte) (n : Nat) (s : State) : performQueryZones tag n s =
    if n ≤ 1 then done kQUERY tag (list8 (((definedEntries s.pms.zones).filter fun x =>
      decide (x.1 / 4 = n ∨ (n = 1 ∧ 8 ≤ x.1))).map fun x => zoneFields s x.1)) s
    else if n = 2 then done kQUERY tag (list8 ((definedEntries s.pms.gates).map fun x => gateFields s x.1 x.2)) s
    else refuse kQUERY tag .field s := by
  have low (z : Nat) : z / 4 = 0 ↔ z < 4 := by omega
  have high (z : Nat) : z / 4 = 1 ∨ 8 ≤ z ↔ 4 ≤ z := by omega
  match n with
  | 0 => simp [performQueryZones, zonesReply, low, -Nat.div_eq_zero_iff]
  | 1 => simp [performQueryZones, zonesReply, high]
  | 2 => rfl
  | n + 3 => rfl

/-- Settles O29: each query's block answers with its fields (`query_done`) or refuses (`query_refused`), and neither touches more
than the reply. -/
theorem queriesAnswer : Obligations.QueriesAnswer := by
  unfold Obligations.QueriesAnswer
  refine ⟨fun tag s r => ?_, fun tag n count s r => ?_⟩
  · exact ⟨query_done r rfl, query_done r (congrArg (done kQUERY tag · (heard s)) (jamFields_eq s.rcv.jam)), query_done r rfl,
      query_done r rfl, query_done r rfl⟩
  · refine ⟨fun pre x post h hx hp => ?_, fun h => ?_, ?_, ?_, ?_, query_done r ?_, ?_⟩
    · obtain ⟨found, place⟩ := findRec_split (s := heard s) h hx hp
      refine query_done r ?_
      rw [performQuerySheet, found]
      dsimp only
      rw [place]
      rfl
    · refine query_refused r ?_
      rw [performQuerySheet, findRec_none (s := heard s) h]
    · split
      · exact query_done r (if_pos ‹_›)
      · exact query_refused r (if_neg ‹_›)
    · split
      · exact query_done r (if_pos ‹_›)
      · exact query_refused r (if_neg ‹_›)
    · have e := performQueryZones_eq tag n (heard s)
      split
      · exact query_done r (e.trans (if_pos ‹_›))
      · rw [if_neg ‹_›] at e
        split
        · exact query_done r (e.trans (if_pos ‹_›))
        · exact query_refused r (e.trans (if_neg ‹_›))
    · simp only [performQueryNodes, nodesFields, Bool.decide_and]
      rfl
    · split
      · exact query_done r (if_neg (by omega))
      · exact query_refused r (if_pos (by omega))

end Sys2Proof.Machine
end

section
/-! SUPPORT. Samples of a sensor line and the edges they make (R19 to R22), and the obligation SamplesJudged. -/

namespace Sys2Proof.Machine

/-! ## One sample -/

/-- Sample `x` lies past the level that a node holds (R21): below its cover level when it is CLEAR, above its clear level when it is
COVERED. -/
def pastLevel (m : MapStore) (q : NodeState) (x : Nat) : Bool :=
  match q.level with
  | .clear => (q.baseline.bind (levelsOf m)).any fun l => x < l.1
  | .covered => (q.baseline.bind (levelsOf m)).any fun l => l.2 < x
  | .unset => false

/-- A node that keeps its level through a sample. -/
def sampled (x run : Nat) (q : NodeState) : NodeState := { q with latest := some x, run := run }

/-- R21 in one equation: the first sample past the level starts a run, the second changes the level, any other ends the run. -/
theorem judgeSample_eq (m : MapStore) (x : Nat) (q : NodeState) : judgeSample m x q =
    if pastLevel m q x then
      if q.run = 0 then (sampled x 1 q, none)
      else ({ sampled x 0 q with level := if q.level = .clear then .covered else .clear }, some (decide (q.level = .clear)))
    else (sampled x 0 q, none) := by
  obtain ⟨latest, baseline, level, run, health⟩ := q
  unfold judgeSample pastLevel sampled
  dsimp only
  generalize baseline.bind (levelsOf m) = levels
  cases level with
  | unset => rfl
  | clear => cases levels <;> simp
  | covered => cases levels <;> simp

section Sample

variable {line x n : Nat} {s : State} (c : s.sfe.calib = none)
include c

theorem setCalib_idle : setCalib (s.sfe.calib.map (accumulate line x)) s = s := by
  have same : s.sfe.calib.map (accumulate line x) = s.sfe.calib := by simp [c]
  rw [same]
  rfl

/-- A line that no SENSOR node names, with no calibration running, is not sampled for anything (R19). -/
theorem takeSample_unnamed (l : nodeOfLine s.pms line = none) : takeSample line x s = s := by
  unfold takeSample
  rw [setCalib_idle c]
  dsimp only
  rw [l]

theorem takeSample_quiet {q : NodeState} (l : nodeOfLine s.pms line = some n)
    (j : judgeSample s.pms x (nodeAt s n) = (q, none)) : takeSample line x s = setNode n q s := by
  unfold takeSample
  rw [setCalib_idle c]
  dsimp only
  rw [l]
  dsimp only
  rw [j]

theorem takeSample_edge {q : NodeState} {lead : Bool} (l : nodeOfLine s.pms line = some n)
    (j : judgeSample s.pms x (nodeAt s n) = (q, some lead)) : takeSample line x s = edgeEvent n lead (setNode n q s) := by
  unfold takeSample
  rw [setCalib_idle c]
  dsimp only
  rw [l]
  dsimp only
  rw [j]

end Sample

/-! ## Two samples -/

/-- The sensor pin of a line follows its last sample. -/
def sensorPinned (line y : Nat) (s : State) : State := { s with pins := { s.pins with sensors := s.pins.sensors.set line y } }

section Samples

variable {line x y n : Nat} {s : State}

theorem takeSample_run (c : s.sfe.calib = none) (l : nodeOfLine s.pms line = some n)
    (h : pastLevel s.pms (nodeAt s n) x = true → (nodeAt s n).run = 0) :
    takeSample line x s = setNode n (sampled x (if pastLevel s.pms (nodeAt s n) x then 1 else 0) (nodeAt s n)) s := by
  refine takeSample_quiet c l ?_
  rw [judgeSample_eq]
  cases past : pastLevel s.pms (nodeAt s n) x with
  | false => rfl
  | true => rw [if_pos rfl, if_pos (h past)]; rfl

/-- Two samples that are not both past the level leave it, with a run of 1 when the second alone is (R21). -/
theorem takeSamples_quiet (c : s.sfe.calib = none) (l : nodeOfLine s.pms line = some n) (room : n < s.sfe.nodes.length)
    (run : pastLevel s.pms (nodeAt s n) x = true → (nodeAt s n).run = 0)
    (h : pastLevel s.pms (nodeAt s n) y = true → pastLevel s.pms (nodeAt s n) x = false) :
    takeSample line y (takeSample line x s) =
      setNode n (sampled y (if pastLevel s.pms (nodeAt s n) y then 1 else 0) (nodeAt s n)) s := by
  rw [takeSample_run c l run]
  generalize hq : sampled x (if pastLevel s.pms (nodeAt s n) x then 1 else 0) (nodeAt s n) = q
  have node : nodeAt (setNode n q s) n = q := nodeAt_setNode room
  have same : pastLevel (setNode n q s).pms q = pastLevel s.pms (nodeAt s n) := by rw [← hq]; rfl
  rw [takeSample_run (s := setNode n q s) c l, node, same, setNode_setNode, ← hq]
  · rfl
  · rw [node, same, ← hq]
    intro hy
    simp [sampled, h hy]

/-- Two samples past the level change it (R21). -/
theorem takeSamples_past (c : s.sfe.calib = none) (l : nodeOfLine s.pms line = some n) (room : n < s.sfe.nodes.length)
    (run : (nodeAt s n).run = 0) (hx : pastLevel s.pms (nodeAt s n) x = true) (hy : pastLevel s.pms (nodeAt s n) y = true) :
    takeSample line y (takeSample line x s) = edgeEvent n (decide ((nodeAt s n).level = .clear))
      (setNode n { sampled y 0 (nodeAt s n) with level := if (nodeAt s n).level = .clear then .covered else .clear } s) := by
  rw [takeSample_run c l fun _ => run, if_pos hx]
  generalize hq : sampled x 1 (nodeAt s n) = q
  have node : nodeAt (setNode n q s) n = q := nodeAt_setNode room
  have same : pastLevel (setNode n q s).pms q = pastLevel s.pms (nodeAt s n) := by rw [← hq]; rfl
  rw [takeSample_edge (s := setNode n q s) (q := { sampled y 0 (nodeAt s n) with
    level := if (nodeAt s n).level = .clear then .covered else .clear }) (lead := decide ((nodeAt s n).level = .clear)) c l,
    setNode_setNode]
  rw [node, judgeSample_eq, same, if_pos hy, ← hq]
  rfl

/-- Two samples past the level are a LEAD edge of a CLEAR node or a TRAIL edge of a COVERED one (R21, R22). -/
theorem takeSamples_edge {lead : Bool} (h : Edge s line x y n lead) :
    takeSample line y (takeSample line x (sensorPinned line y s)) = edgeEvent n lead (edged line y n lead s) := by
  obtain ⟨c, l, room, run, level, b, m, hb, hm, past⟩ := h
  have hx : pastLevel s.pms (nodeAt s n) x = true := by
    cases lead <;> simp_all [pastLevel, levelsOf]
  have hy : pastLevel s.pms (nodeAt s n) y = true := by
    cases lead <;> simp_all [pastLevel, levelsOf]
  have key := takeSamples_past (s := sensorPinned line y s) c l room run hx hy
  have node : nodeAt (sensorPinned line y s) n = nodeAt s n := rfl
  rw [node, sampled, ← run] at key
  rw [key, edged]
  cases lead <;> simp [level] <;> rfl

end Samples

/-! ## Edges where no record moves -/

theorem levelEvent_covered (n : Nat) (s : State) : levelEvent n .covered s = s := by
  unfold levelEvent
  split <;> rfl

/-- Where no area is listed, a level CLEAR concerns none (R128). -/
theorem levelEvent_unlisted (n : Nat) (l : Level) {s : State} (h : s.clm.list = []) : levelEvent n l s = s := by
  unfold levelEvent dueIfBare
  simp only [h, List.contains_nil, Bool.false_eq_true, false_and, if_false, ite_self]
  split <;> rfl

theorem edgeEvent_lead_config {n : Nat} {s : State} (h : s.rcv.path = .config) : edgeEvent n true s = s := by
  simp [edgeEvent, takeLead, h, levelEvent_covered]

/-- A LEAD edge in ARMED is UNEXPECTED (R86). -/
theorem edgeEvent_lead_armed {n : Nat} {s : State} (h : s.rcv.path = .armed) : edgeEvent n true s = raiseUnexpected n s := by
  simp [edgeEvent, takeLead, h, levelEvent_covered]

theorem edgeEvent_trail_config {n : Nat} {s : State} (h : s.rcv.path = .config) (e : s.clm.list = []) :
    edgeEvent n false s = s := by
  simp [edgeEvent, takeTrail, moving, h, levelEvent_unlisted n .clear e]

/-! ## The obligation -/

/-- SENSOR_EDGE of a part that is awake, when what its two samples do leaves no command half done. -/
theorem sensorEdge_plain {line x y : Nat} {s t : State} (w : Awake s)
    (e : takeSample line y (takeSample line x (sensorPinned line y s)) = t) (q : Settled t) :
    exec (.sensorEdge line x y) s = .next t := by
  subst e
  exact congrArg Host.Outcome.next (takeEvent_plain w.1 q)

/-- An edge whose event leaves no command half done. -/
theorem sensorEdge_edge {line x y n : Nat} {lead : Bool} {s t : State} (w : Awake s) (h : Edge s line x y n lead)
    (e : edgeEvent n lead (edged line y n lead s) = t) (q : Settled t) : exec (.sensorEdge line x y) s = .next t :=
  sensorEdge_plain w ((takeSamples_edge h).trans e) q

theorem edged_eq {line x y n : Nat} {lead : Bool} {s : State} (h : Edge s line x y n lead) : edged line y n lead s =
    setNode n { nodeAt s n with latest := some y, level := if lead then .covered else .clear, run := 0 }
      (sensorPinned line y s) := by
  rw [← h.run]
  rfl

/-- Settles O31: two samples not both past the level only count (`takeSamples_quiet`), two past it make the edge
(`takeSamples_edge`), which CONFIG passes over and ARMED raises as UNEXPECTED. -/
theorem samplesJudged : Obligations.SamplesJudged := by
  unfold Obligations.SamplesJudged
  intro line x y s w c
  have settled : Settled s := w.2
  refine ⟨fun l => sensorEdge_plain w ?_ settled, fun n l room => ?_⟩
  · have unnamed (z : Nat) : takeSample line z (sensorPinned line y s) = sensorPinned line y s := takeSample_unnamed c l
    rw [unnamed, unnamed]
    rfl
  have quiet (run : pastLevel s.pms (nodeAt s n) x = true → (nodeAt s n).run = 0)
      (h : pastLevel s.pms (nodeAt s n) y = true → pastLevel s.pms (nodeAt s n) x = false) :
      exec (.sensorEdge line x y) s = .next (setNode n
        (sampled y (if pastLevel s.pms (nodeAt s n) y then 1 else 0) (nodeAt s n)) (sensorPinned line y s)) :=
    sensorEdge_plain w (takeSamples_quiet (n := n) (s := sensorPinned line y s) c l room run h) settled
  refine ⟨fun unset => ?_, fun b m run hb hm => ?_⟩
  · have away (z : Nat) : pastLevel s.pms (nodeAt s n) z = false := by simp [pastLevel, unset]
    rw [quiet (by simp [away]) (by simp [away]), away, ← unset]
    rfl
  refine ⟨fun clear out => ?_, fun covered out => ?_, fun clear hx hy => ?_, fun covered hx hy path empty => ?_⟩
  · have past (z : Nat) : pastLevel s.pms (nodeAt s n) z = decide (z < b * m.coverPct / 100) := by
      simp [pastLevel, clear, hb, hm, levelsOf]
    rw [quiet (fun _ => run) (by simp only [past, decide_eq_true_eq, decide_eq_false_iff_not]; tauto), past, ← clear]
    simp only [decide_eq_true_eq]
    rfl
  · have past (z : Nat) : pastLevel s.pms (nodeAt s n) z = decide (b * m.clearPct / 100 < z) := by
      simp [pastLevel, covered, hb, hm, levelsOf]
    rw [quiet (fun _ => run) (by simp only [past, decide_eq_true_eq, decide_eq_false_iff_not]; tauto), past, ← covered]
    simp only [decide_eq_true_eq]
    rfl
  · have edge : Edge s line x y n true := ⟨c, l, room, run, clear, b, m, hb, hm, hx, hy⟩
    have unexpected (path : s.rcv.path = .armed) (told : Room 1 s) : raiseUnexpected n (edged line y n true s) =
        jammed ⟨.unexpected, none, some n, nodeZone s.pms n, none, none, s.sys.now⟩ (nodeAreas s.pms n) (edged line y n true s) :=
      raiseJam_halts (s := edged line y n true s) (.inl path) told
    refine ⟨fun path => sensorEdge_edge w edge ?_ settled, fun path told => sensorEdge_edge w edge ?_ settled⟩
    · exact (edgeEvent_lead_config (s := edged line y n true s) path).trans (edged_eq edge)
    · rw [edgeEvent_lead_armed (s := edged line y n true s) path, unexpected path told, edged_eq edge]
      rfl
  · have edge : Edge s line x y n false := ⟨c, l, room, run, covered, b, m, hb, hm, hx, hy⟩
    refine sensorEdge_edge w edge ?_ settled
    exact (edgeEvent_trail_config (s := edged line y n false s) path empty).trans (edged_eq edge)

end Sys2Proof.Machine
end

section
/-! SUPPORT. What the FLT, the gates, the jams and the clearance do leaves the sensor front end alone: one lemma for each operation,
from the jams up to a failing node (R29). -/

namespace Sys2Proof.Machine

variable (s : State)

theorem foldl_sfe {α : Type} {f : State → α → State} (h : ∀ s x, (f s x).sfe = s.sfe) (l : List α) (s : State) :
    (l.foldl f s).sfe = s.sfe := by
  induction l generalizing s with
  | nil => rfl
  | cons x xs ih => exact (ih (f s x)).trans (h s x)

/-! ## Notices, jams and gates -/

@[simp] theorem post_sfe (n : Notice) : (post n s).sfe = s.sfe := by
  unfold post
  split <;> rfl

@[simp] theorem haltZones_sfe : (haltZones s).sfe = s.sfe := rfl

@[simp] theorem raiseJam_sfe (c : JamCause) (as : List Nat) : (raiseJam c as s).sfe = s.sfe := by
  unfold raiseJam
  split
  case h_4 => split <;> rfl
  all_goals simp [firstCause, secondFailure]

@[simp] theorem raiseSheet_sfe (c : Cause) (sheet n z : Nat) (m b : Option Int) :
    (raiseSheet c sheet n z m b s).sfe = s.sfe := raiseJam_sfe ..

@[simp] theorem guardJudge_sfe (g : Nat) : (guardJudge g s).sfe = s.sfe := by
  unfold guardJudge gateJam
  dsimp only
  repeat' split
  all_goals simp

@[simp] theorem position_sfe (g : Nat) (e : GateEntry) (n : Nat) (p : Bool) : (position g e n p s).sfe = s.sfe := by
  unfold position commandGate
  dsimp only
  split <;> rfl

@[simp] theorem rederive_sfe (arrived : Option Nat) (g : Nat) : (rederive arrived g s).sfe = s.sfe := by
  unfold rederive
  dsimp only
  repeat' split
  all_goals simp

@[simp] theorem rederiveAt_sfe (arrived : Option Nat) (n : Nat) : (rederiveAt arrived n s).sfe = s.sfe :=
  foldl_sfe (fun s (p : Nat × GateEntry) => rederive_sfe s arrived p.1) _ s

@[simp] theorem rederiveFor_sfe (r : Record) : (rederiveFor r s).sfe = s.sfe :=
  foldl_sfe (fun s (p : Nat × GateEntry) => rederive_sfe s none p.1) _ s

/-! ## Clearance -/

@[simp] theorem areaNotice_sfe (a : Nat) (o : AreaOccasion) (n : Option Nat) : (areaNotice a o n s).sfe = s.sfe := post_sfe ..

@[simp] theorem makeDue_sfe (a : Nat) : (makeDue a s).sfe = s.sfe := by
  unfold makeDue
  split <;> rfl

@[simp] theorem listArea_sfe (a : Nat) : (listArea s a).sfe = s.sfe := by
  unfold listArea
  dsimp only
  repeat' split
  all_goals simp

@[simp] theorem listAreas_sfe (as : List Nat) : (listAreas as s).sfe = s.sfe := foldl_sfe listArea_sfe _ s

@[simp] theorem holdPositions_sfe : (holdPositions s).sfe = s.sfe := by
  unfold holdPositions
  dsimp only
  split <;> rfl

@[simp] theorem decideRecovery_sfe : (decideRecovery s).sfe = s.sfe := by
  unfold decideRecovery enterClearing enterResumable
  split <;> simp

@[simp] theorem dueIfBare_sfe (a : Nat) : (dueIfBare a s).sfe = s.sfe := by
  unfold dueIfBare
  split <;> simp

@[simp] theorem levelEvent_sfe (n : Nat) (l : Level) : (levelEvent n l s).sfe = s.sfe := by
  unfold levelEvent
  repeat' split
  all_goals simp

/-! ## Stations and departures -/

@[simp] theorem putSet_sfe (e : SetEntry) : (putSet e s).sfe = s.sfe := rfl

@[simp] theorem dropSet_sfe (n : Nat) : (dropSet n s).sfe = s.sfe := rfl

@[simp] theorem putRec_sfe (r : Record) : (putRec r s).sfe = s.sfe := rfl

@[simp] theorem countHandOff_sfe (r : Record) : (countHandOff r s).sfe = s.sfe := by
  unfold countHandOff
  split <;> rfl

@[simp] theorem loseStation_sfe (b : Bool) (k : Nat) : (loseStation b k s).sfe = s.sfe := by
  have due (u : State) : (dueForStation k u).sfe = u.sfe := foldl_sfe (fun s a => makeDue_sfe s a) _ u
  unfold loseStation linkLost stationNotice
  dsimp only
  split <;> simp [due]

@[simp] theorem handOffStep_sfe (n : Nat) : (handOffStep n s).sfe = s.sfe := by
  unfold handOffStep offerHandOff
  dsimp only
  repeat' split
  all_goals simp

theorem memberLeaves_sfe (r : Record) (f : Final) : (memberLeaves r f s).sfe = s.sfe := by
  unfold memberLeaves memberDelivered memberLost
  dsimp only
  repeat' split
  all_goals rfl

theorem offerFinal_sfe (m : MapStore) (r : Record) (f : Final) : (offerFinal m r f s).sfe = s.sfe := by
  unfold offerFinal
  split <;> rfl

@[simp] theorem takeOut_sfe (r : Record) (f : Final) : (takeOut r f s).sfe = s.sfe := by
  simp [takeOut, dropHeld, memberLeaves_sfe, offerFinal_sfe, dropRec]

@[simp] theorem enterArmed_sfe : (enterArmed s).sfe = s.sfe := by
  obtain ⟨p, e⟩ := armedEntered_spm (setPath .armed s)
  rw [enterArmed, e]
  rfl

@[simp] theorem leave_sfe (f : Final) (n : Nat) : (leave f n s).sfe = s.sfe := by
  unfold leave afterLeaving runOutEnd
  repeat' split
  all_goals simp

/-! ## Crossings and a failing node -/

@[simp] theorem openStay_sfe (n : Nat) : (openStay n s).sfe = s.sfe := by
  unfold openStay withRec updRec judgeStay
  repeat' split
  all_goals simp

@[simp] theorem takeStep_sfe (x : Nat) (arr : List Arrival) (r : Record) : (takeStep x arr r s).sfe = s.sfe := by
  unfold takeStep
  dsimp only
  repeat' split
  all_goals simp

@[simp] theorem crossMarks_sfe (n k : Nat) : (crossMarks n k s).sfe = s.sfe := by
  induction k generalizing s with
  | zero => rfl
  | succ k ih =>
    unfold crossMarks
    repeat' split
    all_goals simp [ih]

@[simp] theorem crossTrail_sfe (r : Record) : (crossTrail r s).sfe = s.sfe := by
  unfold crossTrail
  dsimp only
  split <;> simp

@[simp] theorem crossTrails_sfe (n k : Nat) : (crossTrails n k s).sfe = s.sfe := by
  induction k generalizing s with
  | zero => rfl
  | succ k ih =>
    unfold crossTrails
    repeat' split
    all_goals simp [ih]

@[simp] theorem settle_sfe (n : Nat) : (settle n s).sfe = s.sfe := by
  unfold settle
  split <;> simp

@[simp] theorem failRecord_sfe (n k : Nat) : (failRecord n s k).sfe = s.sfe := by
  unfold failRecord
  dsimp only
  repeat' split
  all_goals simp

@[simp] theorem nodeFailed_sfe (n : Nat) : (nodeFailed n s).sfe = s.sfe := by
  have failed : (failNodeRecords n s).sfe = s.sfe := foldl_sfe (fun u k => failRecord_sfe u n k) _ s
  unfold nodeFailed
  dsimp only
  split <;> simp [failed]

/-- At the end of a step the front end stands as the step left it. -/
@[simp] theorem finish_sfe : (finish s).sfe = s.sfe := by
  unfold finish postReprint closeEvent
  split <;> simp

end Sys2Proof.Machine
end

section
/-! SUPPORT. Operations that set nodes of the sensor front end one after another, and what they tell (R26 to R28). -/

namespace Sys2Proof.Machine

theorem nodeAt_congr {s t : State} (h : t.sfe = s.sfe) (n : Nat) : nodeAt t n = nodeAt s n := by
  simp only [nodeAt, h]

/-- A node set to what it is. -/
theorem setNode_nodeAt (n : Nat) (s : State) : setNode n (nodeAt s n) s = s := by
  have same : s.sfe.nodes.set n (nodeAt s n) = s.sfe.nodes := by
    refine List.ext_getElem? fun i => ?_
    rw [List.getElem?_set]
    by_cases hi : n = i
    · subst hi
      cases h : s.sfe.nodes[n]? with
      | none => simp [List.getElem?_eq_none_iff.1 h]
      | some q =>
        obtain ⟨lt, rfl⟩ := List.getElem?_eq_some_iff.1 h
        simp [nodeAt, lt]
    · simp [hi]
  rw [setNode, same]

section Nodes

variable {α : Type} {Inv : State → Prop} {f : State → α → State} {key : α → Nat} {upd : α → NodeState → NodeState}
  {note : α → NodeState → Option Notice} {l : List α} {s t : State} {x : α}

/-- For each `x`, `f` sets node `key x` as `upd` says and nothing else of the front end, where `Inv` holds, which it keeps. -/
structure SetsNode (Inv : State → Prop) (f : State → α → State) (key : α → Nat) (upd : α → NodeState → NodeState) : Prop where
  keeps : ∀ {s x}, Inv s → Inv (f s x)
  sfe : ∀ {s x}, Inv s → (f s x).sfe = (setNode (key x) (upd x (nodeAt s (key x))) s).sfe

/-- `t` is what setting the nodes of `l` makes of `s`. -/
structure NodesSet (key : α → Nat) (upd : α → NodeState → NodeState) (l : List α) (s t : State) : Prop where
  front : ∃ q, q.length = s.sfe.nodes.length ∧ t.sfe = { s.sfe with nodes := q }
  here : ∀ x ∈ l, nodeAt t (key x) = upd x (nodeAt s (key x))
  others : ∀ n, (∀ x ∈ l, key x ≠ n) → nodeAt t n = nodeAt s n

theorem SetsNode.nodes (h : SetsNode Inv f key upd) (i : Inv s) : (f s x).sfe.nodes.length = s.sfe.nodes.length := by
  rw [h.sfe i]
  exact List.length_set

theorem SetsNode.nodeAt_ne (h : SetsNode Inv f key upd) (i : Inv s) {n : Nat} (hn : key x ≠ n) : nodeAt (f s x) n = nodeAt s n :=
  (nodeAt_congr (h.sfe i) n).trans (nodeAt_setNode_ne hn)

theorem SetsNode.inv (h : SetsNode Inv f key upd) (i : Inv s) : Inv (l.foldl f s) := by
  induction l generalizing s with
  | nil => exact i
  | cons x l ih => exact ih (h.keeps i)

theorem SetsNode.foldl (h : SetsNode Inv f key upd) (i : Inv s) (room : ∀ x ∈ l, key x < s.sfe.nodes.length)
    (distinct : l.Pairwise fun a b => key a ≠ key b) : NodesSet key upd l s (l.foldl f s) := by
  induction l generalizing s with
  | nil => exact ⟨⟨_, rfl, rfl⟩, by simp, fun _ _ => rfl⟩
  | cons x l ih =>
    obtain ⟨first, rest⟩ := List.pairwise_cons.1 distinct
    have tail := ih (h.keeps i) (fun y hy => (room y (List.mem_cons_of_mem x hy)).trans_eq (h.nodes i (x := x)).symm) rest
    have here : nodeAt (f s x) (key x) = upd x (nodeAt s (key x)) :=
      (nodeAt_congr (h.sfe i) _).trans (nodeAt_setNode (room x (List.mem_cons_self ..)))
    refine ⟨?_, fun y hy => ?_, fun n hn => ?_⟩
    · obtain ⟨q, hq, e⟩ := tail.front
      exact ⟨q, hq.trans (h.nodes i), e.trans (by rw [h.sfe i]; rfl)⟩
    · rcases List.mem_cons.1 hy with rfl | hy
      · exact (tail.others _ fun z hz => (first z hz).symm).trans here
      · exact (tail.here y hy).trans (congrArg (upd y) (h.nodeAt_ne i (first y hy)))
    · exact (tail.others n fun z hz => hn z (List.mem_cons_of_mem x hz)).trans (h.nodeAt_ne i (hn x (List.mem_cons_self ..)))

/-- What such an operation tells of each node, in the order of the list. -/
theorem SetsNode.told (h : SetsNode Inv f key upd) (tells : ∀ {s x}, Inv s → Room (note x (nodeAt s (key x))).toList.length s →
      (f s x).clk.notices = s.clk.notices ++ (note x (nodeAt s (key x))).toList)
    (i : Inv s) (distinct : l.Pairwise fun a b => key a ≠ key b)
    (room : Room (l.filterMap fun x => note x (nodeAt s (key x))).length s) :
    (l.foldl f s).clk.notices = s.clk.notices ++ l.filterMap fun x => note x (nodeAt s (key x)) := by
  induction l generalizing s with
  | nil => simp
  | cons x l ih =>
    obtain ⟨first, rest⟩ := List.pairwise_cons.1 distinct
    have split : ((x :: l).filterMap fun y => note y (nodeAt s (key y))) =
        (note x (nodeAt s (key x))).toList ++ l.filterMap fun y => note y (nodeAt s (key y)) := by
      cases hx : note x (nodeAt s (key x)) <;> simp [hx]
    have same : (l.filterMap fun y => note y (nodeAt (f s x) (key y))) = l.filterMap fun y => note y (nodeAt s (key y)) :=
      List.filterMap_congr fun y hy => by rw [h.nodeAt_ne i (first y hy)]
    unfold Room at room
    rw [split, List.length_append] at room
    have here := tells (x := x) i (show Room _ s by unfold Room; omega)
    have more : Room (l.filterMap fun y => note y (nodeAt (f s x) (key y))).length (f s x) := by
      unfold Room
      rw [here, same, List.length_append]
      omega
    rw [List.foldl_cons, ih (h.keeps i) rest more, same, here, split, List.append_assoc]

end Nodes

/-! ## Health -/

/-- The model judges a health as R27's table does, where the table has a row. -/
theorem HealthTable.judge_eq {judge : Health → Setting → Nat → Health} (h : HealthTable judge) {q : Health} {k : Setting}
    (b : Nat) (row : q = .failed → k ≠ .tracking) : judge q k b = healthAfter q k b := by
  unfold healthAfter
  cases q with
  | ok =>
    dsimp only
    split
    · exact h.fails .ok k b (by decide) ‹_›
    · split
      · exact h.falls k b (by omega) (by omega)
      · exact h.ok k b (by omega)
  | degraded =>
    dsimp only
    split
    · exact h.fails .degraded k b (by decide) ‹_›
    · split
      · exact h.stays k b (by omega) (by omega)
      · exact h.recovers k b (by omega)
  | failed =>
    cases k with
    | arm => exact h.arm b
    | tracking => exact absurd rfl (row rfl)
    | calibrate =>
      dsimp only
      split
      · exact h.calibrateFailed b ‹_›
      · split
        · exact h.calibrateDegraded b (by omega) (by omega)
        · exact h.calibrateOk b (by omega)

/-- The notice of a node that takes baseline `b` by setting `k` (R28). -/
def healthNotice (k : Setting) (n b : Nat) (q : NodeState) : Option Notice :=
  if healthAfter q.health k b = q.health then none else some (.sensor n q.health (healthAfter q.health k b) b k)

theorem sensorNotice_eq {judge : Health → Setting → Nat → Health} (h : HealthTable judge) (s : State) {k : Setting} (n b : Nat)
    (row : (nodeAt s n).health = .failed → k ≠ .tracking) :
    sensorNotice s k n b (judge (nodeAt s n).health k b) = healthNotice k n b (nodeAt s n) := by
  rw [h.judge_eq b row]
  rfl

theorem setBaseline_sfe (n b : Nat) (k : Setting) (s : State) :
    (setBaseline n b k s).sfe = (setNode n (withBaseline b k (nodeAt s n)) s).sfe := by
  unfold setBaseline
  dsimp only
  repeat' split
  all_goals simp

theorem setBaseline_levelled (n b : Nat) (k : Setting) {s : State} (h : s.flt.list = []) : Levelled s (setBaseline n b k s) :=
  ⟨_, List.length_set, setBaseline_aside n b k h⟩

theorem setBaseline_told (n b : Nat) (k : Setting) {s : State} (h : s.flt.list = [])
    (room : Room (healthNotice k n b (nodeAt s n)).toList.length s) :
    (setBaseline n b k s).clk.notices = s.clk.notices ++ (healthNotice k n b (nodeAt s n)).toList :=
  setBaseline_notices h rfl room

end Sys2Proof.Machine
end

section
/-! SUPPORT. BASELINE_TRACK (R26 to R28), and the obligation BaselineTracked. -/

namespace Sys2Proof.Machine

/-- The new baseline of a tracked node, where it differs from the old one (R26). -/
def nextBaseline (q : NodeState) : Option Nat :=
  q.baseline.bind fun b => q.latest.bind fun x => if trackedBaseline b x = b then none else some (trackedBaseline b x)

/-- A tracked node: its health is judged where its baseline changes (R26, R27). -/
def trackedNode (q : NodeState) : NodeState := (nextBaseline q).elim q fun b => withBaseline b .tracking q

/-- What tracking tells of a node (R28). -/
def trackNotice (n : Nat) (q : NodeState) : Option Notice := (nextBaseline q).bind fun b => healthNotice .tracking n b q

theorem trackNode_eq (s : State) (n : Nat) :
    trackNode s n = (nextBaseline (nodeAt s n)).elim s fun b => setBaseline n b .tracking s := by
  unfold trackNode nextBaseline
  cases (nodeAt s n).baseline with
  | none => rfl
  | some b =>
    cases (nodeAt s n).latest with
    | none => rfl
    | some x =>
      dsimp only [Option.bind_some]
      split <;> rfl

theorem trackNode_sfe (s : State) (n : Nat) : (trackNode s n).sfe = (setNode n (trackedNode (nodeAt s n)) s).sfe := by
  rw [trackNode_eq, trackedNode]
  cases nextBaseline (nodeAt s n) with
  | none => exact congrArg State.sfe (setNode_nodeAt n s).symm
  | some b => exact setBaseline_sfe ..

theorem trackNode_levelled {s : State} (h : s.flt.list = []) (n : Nat) : Levelled s (trackNode s n) := by
  rw [trackNode_eq]
  cases nextBaseline (nodeAt s n) with
  | none => exact .refl s
  | some b => exact setBaseline_levelled n b .tracking h

theorem trackNode_told {s : State} {n : Nat} (h : s.flt.list = []) (room : Room (trackNotice n (nodeAt s n)).toList.length s) :
    (trackNode s n).clk.notices = s.clk.notices ++ (trackNotice n (nodeAt s n)).toList := by
  rw [trackNode_eq]
  unfold trackNotice at room ⊢
  cases next : nextBaseline (nodeAt s n) with
  | none => simp
  | some b =>
    rw [next] at room
    exact setBaseline_told n b .tracking h room

theorem trackNode_sets : SetsNode (fun _ => True) trackNode id fun _ => trackedNode :=
  ⟨fun _ => trivial, fun {s n} _ => trackNode_sfe s n⟩

/-- With no sheet in the list, tracking reaches no more than the nodes, the clearance and the notices. -/
theorem trackNode_sets_levelled {s : State} (h : s.flt.list = []) : SetsNode (Levelled s) trackNode id fun _ => trackedNode :=
  ⟨fun {_ n} i => i.trans (trackNode_levelled (by rw [i.list, h]) n), fun {s n} _ => trackNode_sfe s n⟩

/-- The nodes that a BASELINE_TRACK moves, in index order. -/
def trackList (s : State) : List Nat := ((sensorNodes s.pms).map (·.1)).filter (tracked s)

theorem trackList_distinct (s : State) : (trackList s).Pairwise fun a b => id a ≠ id b :=
  (List.pairwise_map.2 (sensorNodes_distinct s.pms)).filter _

theorem mem_trackList {s : State} {n : Nat} {e : NodeEntry} (he : s.pms.node? n = some e) (hk : e.kind = .sensor) :
    n ∈ trackList s ↔ tracked s n = true := by
  rw [trackList, List.mem_filter]
  exact and_iff_right (List.mem_map.2 ⟨(n, e), mem_sensorNodes.2 ⟨he, hk⟩, rfl⟩)

theorem trackList_lt {s : State} (h : s.sfe.nodes.length = s.pms.nodes.length) : ∀ n ∈ trackList s, n < s.sfe.nodes.length := by
  intro n hn
  obtain ⟨⟨_, e⟩, hm, rfl⟩ := List.mem_map.1 (List.mem_filter.1 hn).1
  exact h ▸ entryAt_lt (mem_sensorNodes.1 hm).1

/-- The conditions of R26. -/
theorem tracked_iff (s : State) (n : Nat) : tracked s n = true ↔
    (nodeAt s n).health ≠ .failed ∧ (nodeAt s n).level = .clear ∧ s.sfe.calib = none ∧ ∀ r ∈ s.flt.list,
      liesOver s.pms r n = false ∧ (∀ w, r.leadExp = some w → w.node = n → 5000 < remainingSigned s.pms r) ∧
        reversingAt s.pms n r = none := by
  simp [tracked, and_assoc, Option.any_eq_true]

/-- With no sheet in the list, only the node's own state counts. -/
theorem tracked_empty {s : State} (h : s.flt.list = []) (n : Nat) : tracked s n = true ↔
    (nodeAt s n).health ≠ .failed ∧ (nodeAt s n).level = .clear ∧ s.sfe.calib = none := by
  simp [tracked_iff, h]

/-- BASELINE_TRACK as the nodes of its list taken one after another. -/
theorem baselineTrack_eq {s : State} (w : Awake s) :
    exec .baselineTrack s = .next (finish ((trackList s).foldl trackNode s)) :=
  congrArg Host.Outcome.next (takeEvent_live w.1)

/-- Tracking of a node that it tracks, in the words of R26 and R27. -/
theorem trackedNode_spec {judge : Health → Setting → Nat → Health} (hj : HealthTable judge) {q : NodeState} {b x : Nat}
    (ok : q.health ≠ .failed) (hb : q.baseline = some b) (hx : q.latest = some x) :
    (trackedNode q).baseline = some (trackedBaseline b x) ∧ (trackedNode q).latest = some x ∧
      (trackedNode q).health = if trackedBaseline b x = b then q.health else judge q.health .tracking (trackedBaseline b x) := by
  rw [hj.judge_eq _ fun f => absurd f ok]
  by_cases same : trackedBaseline b x = b
  · simp [trackedNode, nextBaseline, hb, hx, same]
  · simp [trackedNode, nextBaseline, hb, hx, same, withBaseline]

/-- What tracking tells of all nodes, in the words of R28. -/
theorem trackList_notices {judge : Health → Setting → Nat → Health} (hj : HealthTable judge) {s : State} (h : s.flt.list = []) :
    ((trackList s).filterMap fun n => trackNotice n (nodeAt s n)) = (sensorNodes s.pms).filterMap fun x =>
      let q := nodeAt s x.1
      q.baseline.bind fun b => q.latest.bind fun y =>
        let b' := ((b : Int) + ((y : Int) - b).tdiv 16).toNat
        if q.health ≠ .failed ∧ q.level = .clear ∧ s.sfe.calib = none ∧ b' ≠ b
        then sensorNotice s .tracking x.1 b' (judge q.health .tracking b') else none := by
  rw [trackList, List.filterMap_filter, List.filterMap_map]
  refine List.filterMap_congr fun x _ => ?_
  dsimp only [Function.comp_apply]
  by_cases free : tracked s x.1 = true
  · obtain ⟨ok, clear, idle⟩ := (tracked_empty h x.1).1 free
    rw [if_pos free, trackNotice, nextBaseline]
    cases (nodeAt s x.1).baseline with
    | none => rfl
    | some b =>
      cases (nodeAt s x.1).latest with
      | none => rfl
      | some y =>
        dsimp only [Option.bind_some]
        rw [sensorNotice_eq hj s x.1 _ fun f => absurd f ok]
        by_cases same : trackedBaseline b y = b
        · rw [if_pos same, if_neg fun c => c.2.2.2 same]
          rfl
        · rw [if_neg same, if_pos ⟨ok, clear, idle, same⟩]
          rfl
  · have out (b : Prop) : ¬((nodeAt s x.1).health ≠ .failed ∧ (nodeAt s x.1).level = .clear ∧ s.sfe.calib = none ∧ b) :=
      fun ⟨ok, clear, idle, _⟩ => free ((tracked_empty h x.1).2 ⟨ok, clear, idle⟩)
    simp only [if_neg free, if_neg (out _), Option.bind_fun_none]

/-- Settles O35: the nodes of the list are set one after another (`SetsNode.foldl`), which with no sheet in the list reaches no
more than the clearance and the notices (`Levelled`). -/
theorem baselineTracked : Obligations.BaselineTracked := by
  unfold Obligations.BaselineTracked
  intro judge s hj w hs hp
  have small := trackList_lt (hs.trans hp.symm)
  have distinct := trackList_distinct s
  have set := trackNode_sets.foldl (s := s) trivial small distinct
  have kept := (Ordinary.foldl trackNode_ordinary (trackList s) s).trans (finish_ordinary _)
  have step := baselineTrack_eq w
  have sfe : (finish ((trackList s).foldl trackNode s)).sfe = ((trackList s).foldl trackNode s).sfe := finish_sfe _
  have node := nodeAt_congr sfe
  have calm (h : s.flt.list = []) : Levelled s ((trackList s).foldl trackNode s) :=
    (trackNode_sets_levelled h).inv (Levelled.refl s)
  have settled (h : s.flt.list = []) : finish ((trackList s).foldl trackNode s) = (trackList s).foldl trackNode s := by
    obtain ⟨q, -, c, ns, l, e⟩ := calm h
    rw [e]
    exact finish_settled w.2
  have told (h : s.flt.list = []) := (trackNode_sets_levelled h).told (l := trackList s) (note := trackNotice)
    (fun i room => trackNode_told (by rw [i.list, h]) room) (Levelled.refl s) distinct
  generalize (trackList s).foldl trackNode s = u at *
  refine ⟨_, step, kept.pms, kept.pins, ?_, fun n e he hk => ⟨fun stays => ?_, fun b x free hb hx => ?_⟩, fun h room => ?_, fun h => ?_⟩
  · obtain ⟨q, -, e⟩ := set.front
    rw [sfe, e]
  · rw [node]
    refine set.others n fun k hk' hn => stays ((tracked_iff s n).1 ?_)
    exact (mem_trackList he hk).1 (hn ▸ hk')
  · have here : nodeAt u n = trackedNode (nodeAt s n) := set.here n ((mem_trackList he hk).2 ((tracked_iff s n).2 free))
    rw [node, here]
    exact trackedNode_spec hj free.1 hb hx
  · rw [settled h]
    rw [← trackList_notices hj h] at room ⊢
    exact told h room
  · rw [settled h]
    obtain ⟨q, -, c, ns, l, e⟩ := calm h
    rw [e]
    exact ⟨rfl, rfl, rfl, rfl, rfl, rfl⟩

end Sys2Proof.Machine
end

section
/-! SUPPORT. CALIBRATE and CALIBRATE_END (R24, R27, R28), and the obligation CalibrationMeasures. -/

namespace Sys2Proof.Machine

/-! ## CALIBRATE -/

theorem calibrateAllowed_iff (s : State) : calibrateAllowed s = true ↔
    s.rcv.path = .config ∨ (s.rcv.path = .clearing ∧ allCoversClosed s = true) := by
  unfold calibrateAllowed
  cases s.rcv.path <;> simp

theorem calibrate_answered {tag : Byte} {s u : State} (r : Ready s) (e : performCalibrate tag (heard s) = u) (q : Settled u) :
    exec (.calibrate tag) s = .next u := by
  subst e
  exact congrArg Host.Outcome.next (takeRequest_plain r q)

/-- Where CALIBRATE is allowed, it is done at once with no SENSOR node, and samples with one (R24). -/
theorem performCalibrate_allowed {tag : Byte} {s : State} (h : calibrateAllowed s = true) : performCalibrate tag s =
    if sensorNodes s.pms = [] then done kCALIBRATE tag [0, 0] s
    else replyLater kCALIBRATE tag (setCalib (some ⟨tag, List.replicate 24 0, List.replicate 24 0, 0⟩) s) := by
  rw [performCalibrate, if_pos h]
  cases sensorNodes s.pms <;> rfl

/-! ## What stands while no record moves -/

/-- `t` is `s` but for the front end, the flight list, the clearance and the command link. -/
structure Still (s t : State) : Prop where
  pms : t.pms = s.pms
  zdu : t.zdu = s.zdu
  rcv : t.rcv = s.rcv
  rpq : t.rpq = s.rpq
  xlm : t.xlm = s.xlm
  spm : t.spm = s.spm

namespace Still

variable {s t u : State}

theorem refl (s : State) : Still s s := ⟨rfl, rfl, rfl, rfl, rfl, rfl⟩

theorem trans (h : Still s t) (k : Still t u) : Still s u :=
  ⟨k.pms.trans h.pms, k.zdu.trans h.zdu, k.rcv.trans h.rcv, k.rpq.trans h.rpq, k.xlm.trans h.xlm, k.spm.trans h.spm⟩

theorem foldl {α : Type} {f : State → α → State} {l : List α} (h : ∀ {t x}, Still s t → Still t (f t x)) (i : Still s t) :
    Still s (l.foldl f t) := by
  induction l generalizing t with
  | nil => exact i
  | cons x l ih => exact ih (i.trans (h i))

theorem moving (h : Still s t) : moving t = moving s := by
  simp only [Machine.moving, h.rcv]

theorem settled (h : Still s t) (q : Settled s) : Settled t := by
  obtain ⟨touched, underway⟩ := q
  exact ⟨h.rpq ▸ touched, h.rcv ▸ underway⟩

end Still

theorem Aside.still {s t : State} (h : Aside s t) : Still s t := by
  obtain ⟨_, _, _, rfl⟩ := h
  exact ⟨rfl, rfl, rfl, rfl, rfl, rfl⟩

theorem setNode_still (n : Nat) (q : NodeState) (s : State) : Still s (setNode n q s) := ⟨rfl, rfl, rfl, rfl, rfl, rfl⟩

section Stopped

variable {s : State} (h : moving s = false)
include h

/-- A node that fails while no record moves takes the expectations of its records, and no record crosses anything (R29). -/
theorem failRecord_still (n k : Nat) : Still s (failRecord n s k) := by
  have rest (q : Record) : settle k (putRec q s) = putRec q s := by
    have stopped : moving (putRec q s) = false := h
    simp [settle, stopped]
  unfold failRecord
  dsimp only
  split
  · split
    · rw [rest]
      exact ⟨rfl, rfl, rfl, rfl, rfl, rfl⟩
    · exact ⟨rfl, rfl, rfl, rfl, rfl, rfl⟩
  · exact .refl s

theorem nodeFailed_still (n : Nat) : Still s (nodeFailed n s) := by
  have failed : Still s (failNodeRecords n s) :=
    Still.foldl (fun i => failRecord_still (i.moving.trans h) n _) (.refl s)
  unfold nodeFailed
  dsimp only
  split
  · exact failed.trans (dueIfBare_aside _ _).still
  · exact failed

theorem setBaseline_still (n b : Nat) (k : Setting) : Still s (setBaseline n b k s) := by
  unfold setBaseline
  dsimp only
  split
  · exact setNode_still ..
  · have told := (setNode_still n (withBaseline b k (nodeAt s n)) s).trans (post_aside
      (.sensor n (nodeAt s n).health (withBaseline b k (nodeAt s n)).health b k) _).still
    split
    · exact told.trans (nodeFailed_still (told.moving.trans h) n)
    · exact told

end Stopped

theorem setLevelNow_still (n : Nat) (s : State) : Still s (setLevelNow n s) :=
  (setNode_still ..).trans (setLevelNow_aside n s).still

theorem setLevelNow_sfe (n : Nat) (s : State) : (setLevelNow n s).sfe =
    (setNode n { nodeAt s n with level := levelNow s.pms (nodeAt s n), run := 0 } s).sfe := by
  unfold setLevelNow
  dsimp only
  split <;> simp

/-! ## The last samples -/

/-- A node whose line brought no 16 samples has its pin's level as its latest (R24, log 34). -/
def toppedUp (c : Calibration) (s : State) (p : Nat × NodeEntry) (q : NodeState) : NodeState :=
  let line := p.2.line.getD 0
  if (c.counts[line]?).getD 0 < 16 then { q with latest := some ((s.pins.sensors[line]?).getD 0) } else q

theorem toppedUp_eq (c : Calibration) (s : State) (p : Nat × NodeEntry) (q : NodeState) : toppedUp c s p q =
    { q with latest := if (c.counts[p.2.line.getD 0]?).getD 0 < 16 then some ((s.pins.sensors[p.2.line.getD 0]?).getD 0)
        else q.latest } := by
  unfold toppedUp
  dsimp only
  split <;> rfl

/-- `t` is `s` but for its nodes. -/
def NodesOnly (s t : State) : Prop := ∃ q, t = { s with sfe := { s.sfe with nodes := q } }

theorem lastSample_eq (c : Calibration) (s : State) (p : Nat × NodeEntry) :
    lastSample c s p.1 p.2 = setNode p.1 (toppedUp c s p (nodeAt s p.1)) s := by
  unfold lastSample toppedUp
  dsimp only
  split
  · rfl
  · exact (setNode_nodeAt _ _).symm

theorem lastSample_sets (c : Calibration) (s : State) :
    SetsNode (NodesOnly s) (fun t p => lastSample c t p.1 p.2) (·.1) (toppedUp c s) := by
  refine ⟨fun {t p} i => ?_, fun {t p} i => ?_⟩
  all_goals
    obtain ⟨q, rfl⟩ := i
    dsimp only
    rw [lastSample_eq]
  · exact ⟨_, rfl⟩
  · rfl

/-! ## The means -/

/-- A node that takes its mean as its baseline: its health judged, its level set at once (R24, R27). -/
def calibratedNode (m : MapStore) (b : Nat) (q : NodeState) : NodeState :=
  let q := withBaseline b .calibrate q
  { q with level := levelNow m q, run := 0 }

/-- One node of CALIBRATE_END, its mean `b p`. -/
def calibrateNode (b : Nat × NodeEntry → Nat) (s : State) (p : Nat × NodeEntry) : State :=
  setLevelNow p.1 (setBaseline p.1 (b p) .calibrate s)

theorem calibrateNode_sfe (b : Nat × NodeEntry → Nat) (s : State) (p : Nat × NodeEntry) :
    (calibrateNode b s p).sfe = (setNode p.1 (calibratedNode s.pms (b p) (nodeAt s p.1)) s).sfe := by
  have based := setBaseline_sfe p.1 (b p) .calibrate s
  rw [calibrateNode, setLevelNow_sfe, nodeAt_congr based, (setBaseline_ordinary ..).pms, setNode, based]
  by_cases room : p.1 < s.sfe.nodes.length
  · rw [nodeAt_setNode room]
    simp [setNode, calibratedNode]
  · simp [setNode, List.set_eq_of_length_le (Nat.le_of_not_lt room)]

theorem calibrateNode_still (b : Nat × NodeEntry → Nat) {s : State} (h : moving s = false) (p : Nat × NodeEntry) :
    Still s (calibrateNode b s p) := (setBaseline_still h ..).trans (setLevelNow_still ..)

theorem calibrateNode_levelled (b : Nat × NodeEntry → Nat) {s : State} (h : s.flt.list = []) (p : Nat × NodeEntry) :
    Levelled s (calibrateNode b s p) :=
  (setBaseline_levelled p.1 (b p) .calibrate h).trans ⟨_, List.length_set, setLevelNow_aside p.1 _⟩

theorem calibrateNode_told (b : Nat × NodeEntry → Nat) {s : State} (h : s.flt.list = []) {p : Nat × NodeEntry}
    (room : Room (healthNotice .calibrate p.1 (b p) (nodeAt s p.1)).toList.length s) :
    (calibrateNode b s p).clk.notices = s.clk.notices ++ (healthNotice .calibrate p.1 (b p) (nodeAt s p.1)).toList := by
  rw [calibrateNode, setLevelNow_clk]
  exact setBaseline_told p.1 (b p) .calibrate h room

theorem calibrateNode_sets (b : Nat × NodeEntry → Nat) {s : State} (h : moving s = false) :
    SetsNode (Still s) (calibrateNode b) (·.1) fun p => calibratedNode s.pms (b p) :=
  ⟨fun i => i.trans (calibrateNode_still b (i.moving.trans h) _), fun i => i.pms ▸ calibrateNode_sfe b _ _⟩

theorem calibrateNode_sets_levelled (b : Nat × NodeEntry → Nat) {s : State} (h : s.flt.list = []) :
    SetsNode (Levelled s) (calibrateNode b) (·.1) fun p => calibratedNode s.pms (b p) :=
  ⟨fun i => i.trans (calibrateNode_levelled b (by rw [i.list, h]) _), fun i => i.pms ▸ calibrateNode_sfe b _ _⟩

/-- A calibrated node in the words of R24 and R27. -/
theorem calibratedNode_spec {judge : Health → Setting → Nat → Health} (hj : HealthTable judge) {m : MapStore} {p : Params}
    (hp : m.params = some p) (b : Nat) (q : NodeState) :
    (calibratedNode m b q).baseline = some b ∧ (calibratedNode m b q).health = judge q.health .calibrate b ∧
      (calibratedNode m b q).latest = q.latest ∧
      ∀ x, q.latest = some x → (calibratedNode m b q).level =
        if judge q.health .calibrate b = .failed then .unset else if b * p.clearPct / 100 < x then .clear else .covered := by
  rw [hj.judge_eq b (by simp)]
  refine ⟨rfl, rfl, rfl, fun x hx => ?_⟩
  simp [calibratedNode, withBaseline, levelNow, levelsOf, hp, hx]

/-! ## CALIBRATE_END -/

/-- The part with every node's 16 samples in. -/
def topped (c : Calibration) (s : State) : State := (sensorNodes s.pms).foldl (fun t p => lastSample c t p.1 p.2) s

/-- The mean of a node's line. -/
def nodeMean (s : State) (c : Calibration) (p : Nat × NodeEntry) : Nat := meanOf s c (p.2.line.getD 0)

/-- The nodes that qualify (R24). -/
def goodNodes (s : State) (c : Calibration) : List (Nat × NodeEntry) := (sensorNodes s.pms).filter fun p => qualifies s c p.2

/-- The part with the means of the qualifying nodes taken. -/
def calibrated (c : Calibration) (s : State) : State :=
  (goodNodes s c).foldl (calibrateNode (nodeMean s c)) (setCalib none (topped c s))

theorem topped_only (c : Calibration) (s : State) : NodesOnly s (topped c s) := (lastSample_sets c s).inv ⟨_, rfl⟩

theorem endCalibration_eq (c : Calibration) (s : State) : endCalibration c s =
    done kCALIBRATE c.tag (list8 (((sensorNodes s.pms).filter fun p => !qualifies s c p.2).map fun p => u8 p.1) ++
      u8 (goodNodes s c).length) (calibrated c s) := by
  obtain ⟨q, e⟩ := topped_only c s
  unfold endCalibration calibrated
  rw [topped] at e ⊢
  dsimp only
  rw [e]
  rfl

theorem topped_still (c : Calibration) (s : State) : Still s (setCalib none (topped c s)) := by
  obtain ⟨q, e⟩ := topped_only c s
  rw [e]
  exact ⟨rfl, rfl, rfl, rfl, rfl, rfl⟩

theorem healthNotice_toppedUp (k : Setting) (n b : Nat) (c : Calibration) (s : State) (p : Nat × NodeEntry) (q : NodeState) :
    healthNotice k n b (toppedUp c s p q) = healthNotice k n b q := by
  rw [toppedUp_eq]
  rfl

theorem calibrated_still {c : Calibration} {s : State} (h : moving s = false) : Still s (calibrated c s) :=
  (topped_still c s).trans ((calibrateNode_sets _ ((topped_still c s).moving.trans h)).inv (.refl _))

section Ends

variable {s : State} {c : Calibration} (hs : s.sfe.nodes.length = s.pms.nodes.length)
include hs

theorem sensorNodes_lt {p : Nat × NodeEntry} (hp : p ∈ sensorNodes s.pms) : p.1 < s.sfe.nodes.length :=
  hs ▸ entryAt_lt (mem_sensorNodes.1 hp).1

theorem topped_nodes : NodesSet (·.1) (toppedUp c s) (sensorNodes s.pms) s (topped c s) :=
  (lastSample_sets c s).foldl ⟨_, rfl⟩ (fun _ h => sensorNodes_lt hs h) (sensorNodes_distinct _)

theorem topped_nodeAt {p : Nat × NodeEntry} (hp : p ∈ sensorNodes s.pms) :
    nodeAt (setCalib none (topped c s)) p.1 = toppedUp c s p (nodeAt s p.1) := (topped_nodes hs).here p hp

theorem calibrated_nodes (h : moving s = false) :
    NodesSet (·.1) (fun p => calibratedNode s.pms (nodeMean s c p)) (goodNodes s c) (setCalib none (topped c s)) (calibrated c s) := by
  have still := topped_still c s
  obtain ⟨q, hq, e⟩ := (topped_nodes (c := c) hs).front
  have size : (setCalib none (topped c s)).sfe.nodes.length = s.sfe.nodes.length := by
    rw [← hq]
    exact congrArg (fun f => f.nodes.length) e
  have set := (calibrateNode_sets (nodeMean s c) (still.moving.trans h)).foldl (.refl _) (l := goodNodes s c)
    (fun p hp => (sensorNodes_lt hs (List.mem_filter.1 hp).1).trans_eq size.symm) ((sensorNodes_distinct _).filter _)
  rw [still.pms] at set
  exact set

/-- A node after CALIBRATE_END. -/
theorem calibrated_nodeAt {n : Nat} {e : NodeEntry} (h : moving s = false) (hm : (n, e) ∈ sensorNodes s.pms) :
    nodeAt (calibrated c s) n = if qualifies s c e then
      calibratedNode s.pms (nodeMean s c (n, e)) (toppedUp c s (n, e) (nodeAt s n)) else toppedUp c s (n, e) (nodeAt s n) := by
  have set := calibrated_nodes (c := c) hs h
  have top : nodeAt (setCalib none (topped c s)) n = toppedUp c s (n, e) (nodeAt s n) := topped_nodeAt hs hm
  split
  · have here : nodeAt (calibrated c s) n = calibratedNode s.pms (nodeMean s c (n, e)) (nodeAt (setCalib none (topped c s)) n) :=
      set.here (n, e) (List.mem_filter.2 ⟨hm, ‹_›⟩)
    rw [here, top]
  · rw [← top]
    refine set.others n fun x hx hn => ?_
    obtain ⟨hx, good⟩ := List.mem_filter.1 hx
    obtain ⟨he, -⟩ := mem_sensorNodes.1 hm
    obtain ⟨he', -⟩ := mem_sensorNodes.1 (show (x.1, x.2) ∈ _ from hx)
    rw [show x.1 = n from hn, he] at he'
    exact absurd (Option.some.inj he' ▸ good) ‹_›

/-- The notices of the qualifying nodes, with no sheet in the list (R28). -/
theorem calibrated_told (h : s.flt.list = []) (room : Room ((goodNodes s c).filterMap fun p =>
      healthNotice .calibrate p.1 (nodeMean s c p) (nodeAt s p.1)).length s) :
    (calibrated c s).clk.notices = s.clk.notices ++ (goodNodes s c).filterMap fun p =>
      healthNotice .calibrate p.1 (nodeMean s c p) (nodeAt s p.1) := by
  have same : ((goodNodes s c).filterMap fun p => healthNotice .calibrate p.1 (nodeMean s c p)
      (nodeAt (setCalib none (topped c s)) p.1)) = (goodNodes s c).filterMap fun p =>
        healthNotice .calibrate p.1 (nodeMean s c p) (nodeAt s p.1) :=
    List.filterMap_congr fun p hp => by rw [topped_nodeAt hs (List.mem_filter.1 hp).1, healthNotice_toppedUp]
  obtain ⟨q, e⟩ := topped_only c s
  have empty : (setCalib none (topped c s)).flt.list = [] := by rw [e]; exact h
  have notices : (setCalib none (topped c s)).clk.notices = s.clk.notices := by rw [e]; rfl
  rw [← same, ← notices]
  refine (calibrateNode_sets_levelled (nodeMean s c) empty).told (l := goodNodes s c)
    (note := fun p => healthNotice .calibrate p.1 (nodeMean s c p)) (fun i room => calibrateNode_told _ (by rw [i.list, empty]) room)
    (.refl _) ((sensorNodes_distinct _).filter _) ?_
  rw [same]
  unfold Room
  rw [notices]
  exact room

end Ends

/-- The notices of the qualifying nodes in the words of R28. -/
theorem goodNodes_notices {judge : Health → Setting → Nat → Health} (hj : HealthTable judge) (s : State) (c : Calibration) :
    ((goodNodes s c).filterMap fun p => healthNotice .calibrate p.1 (nodeMean s c p) (nodeAt s p.1)) =
      (sensorNodes s.pms).filterMap fun x =>
        if qualifies s c x.2 then sensorNotice s .calibrate x.1 (nodeMean s c x)
          (judge (nodeAt s x.1).health .calibrate (nodeMean s c x)) else none := by
  rw [goodNodes, List.filterMap_filter]
  refine List.filterMap_congr fun x _ => ?_
  rw [sensorNotice_eq hj s x.1 _ (by simp)]

/-- CALIBRATE_END of a part that samples (R24). -/
theorem calibrateEnd_eq {s : State} {c : Calibration} (live : s.sys.live = true) (q : Settled s) (hc : s.sfe.calib = some c)
    (h : moving s = false) : exec .calibrateEnd s = .next (endCalibration c s) := by
  have settled : Settled (endCalibration c s) := by
    rw [endCalibration_eq]
    exact (calibrated_still h).settled q
  refine congrArg Host.Outcome.next ((takeEvent_live live).trans ?_)
  rw [hc]
  exact finish_settled settled

theorem nodeAt_done (k tag : Byte) (fs : List Byte) (s : State) (n : Nat) : nodeAt (done k tag fs s) n = nodeAt s n := rfl

/-- Settles O20: CALIBRATE by its three cases; CALIBRATE_END tops the samples up (`topped_nodes`) and then sets the nodes that qualify
(`calibrated_nodes`), which with no record moving reaches no other block (`Still`). -/
theorem calibrationMeasures : Obligations.CalibrationMeasures := by
  unfold Obligations.CalibrationMeasures
  refine ⟨fun tag s r => ⟨fun ok bare => ?_, fun ok nodes => ?_, fun not_ => ?_⟩, fun s live q => ⟨fun idle => ?_, ?_⟩⟩
  · have allowed : calibrateAllowed (heard s) = true := (calibrateAllowed_iff _).2 ok
    exact calibrate_answered r ((performCalibrate_allowed allowed).trans (if_pos bare)) r.settled_heard
  · have allowed : calibrateAllowed (heard s) = true := (calibrateAllowed_iff _).2 ok
    exact calibrate_answered r ((performCalibrate_allowed allowed).trans (if_neg nodes)) r.settled_heard
  · have refused : ¬calibrateAllowed (heard s) = true := mt (calibrateAllowed_iff _).1 not_
    exact calibrate_answered r (if_neg refused) r.settled_heard
  · refine congrArg Host.Outcome.next (takeEvent_plain live ?_ |>.trans ?_)
    all_goals rw [idle]
    exact q
  · intro c p judge hj hc hp stopped hs hn
    have sizes := hs.trans hn.symm
    have still := calibrated_still (c := c) stopped
    have set := calibrated_nodes (c := c) sizes stopped
    have step := calibrateEnd_eq live q hc stopped
    rw [endCalibration_eq] at step
    refine ⟨_, step, ?_, still.pms, still.zdu, still.rcv, still.rpq, still.xlm, still.spm, ?_, fun empty room => ?_,
      fun n e he hk => ?_⟩
    · obtain ⟨nodes, -, front⟩ := set.front
      exact congrArg Sfe.calib front
    · rw [List.countP_eq_length_filter]
      rfl
    · have told := calibrated_told (c := c) sizes empty
      rw [goodNodes_notices hj] at told
      exact told room
    · have hm := mem_sensorNodes.2 ⟨he, hk⟩
      have node := calibrated_nodeAt (c := c) sizes stopped hm
      have top := toppedUp_eq c s (n, e) (nodeAt s n)
      have spec := calibratedNode_spec hj hp (nodeMean s c (n, e)) (toppedUp c s (n, e) (nodeAt s n))
      dsimp only at top ⊢
      simp only [nodeAt_done]
      cases good : qualifies s c e with
      | false =>
        rw [good] at node
        rw [node, if_neg Bool.false_ne_true, top]
        refine ⟨fun short => if_pos short, fun long => if_neg long, fun _ => rfl, fun yes => ?_⟩
        exact absurd (of_decide_eq_true yes) (of_decide_eq_false good)
      | true =>
        rw [good, if_pos rfl] at node
        have sameHealth : (toppedUp c s (n, e) (nodeAt s n)).health = (nodeAt s n).health := by rw [top]
        have latest := congrArg NodeState.latest top
        obtain ⟨baseline, health, kept, level⟩ := spec
        rw [sameHealth] at health level
        rw [node, kept]
        refine ⟨fun short => latest.trans (if_pos short), fun long => latest.trans (if_neg long), fun no => ?_,
          fun _ => ⟨baseline, health, level⟩⟩
        exact absurd (of_decide_eq_true good) (of_decide_eq_false no)

end Sys2Proof.Machine
end

section
/-! SUPPORT. The clearance list and the areas as operations on one area after another leave them (R122 to R125). -/

namespace Sys2Proof.Machine

/-! ## List order -/

theorem insertArea_perm (m : MapStore) (a : Nat) (l : List Nat) : (insertArea m a l).Perm (a :: l) := by
  induction l with
  | nil => exact .refl _
  | cons b l ih =>
    unfold insertArea
    split
    · exact .refl _
    · exact (ih.cons b).trans (.swap a b l)

theorem inListOrder_perm (m : MapStore) (as : List Nat) : (inListOrder m as).Perm as := by
  induction as with
  | nil => exact .refl _
  | cons a as ih => exact (insertArea_perm m a _).trans (ih.cons a)

theorem mem_areaSet {p : Nat → Bool} {a : Nat} : a ∈ areaSet p ↔ a < 12 ∧ p a = true := by
  simp [areaSet]

theorem areaSet_nodup (p : Nat → Bool) : (areaSet p).Nodup := List.nodup_range.filter p

/-! ## One area -/

/-- What the CLM holds of an area: whether it is listed, and its state. -/
structure AreaView where
  listed : Bool
  state : AreaState

def areaView (s : State) (a : Nat) : AreaView := ⟨s.clm.list.contains a, areaAt s a⟩

/-- `f` takes area `a` as `upd` says, and leaves every other area. -/
structure TakesArea (f : State → Nat → State) (upd : AreaView → AreaView) : Prop where
  areas : ∀ s a, (f s a).clm.areas = s.clm.areas.set a (upd (areaView s a)).state
  list : ∀ s a b, (f s a).clm.list.contains b = if b = a then (upd (areaView s a)).listed else s.clm.list.contains b

namespace TakesArea

variable {f : State → Nat → State} {upd : AreaView → AreaView} {l : List Nat} {s : State} {a : Nat}

theorem size (h : TakesArea f upd) : (f s a).clm.areas.length = s.clm.areas.length := by
  rw [h.areas]
  exact List.length_set

theorem listed (h : TakesArea f upd) : (f s a).clm.list.contains a = (upd (areaView s a)).listed := by
  rw [h.list, if_pos rfl]

theorem state (h : TakesArea f upd) (room : a < s.clm.areas.length) : areaAt (f s a) a = (upd (areaView s a)).state := by
  simp [areaAt, h.areas, room]

theorem others (h : TakesArea f upd) {b : Nat} (ne : a ≠ b) : areaView (f s a) b = areaView s b := by
  simp only [areaView, areaAt, h.areas, h.list, if_neg ne.symm, List.getElem?_set_ne ne]

theorem foldl_size (h : TakesArea f upd) : (l.foldl f s).clm.areas.length = s.clm.areas.length := by
  induction l generalizing s with
  | nil => rfl
  | cons b l ih => exact ih.trans h.size

theorem foldl_others (h : TakesArea f upd) (ha : a ∉ l) : areaView (l.foldl f s) a = areaView s a := by
  induction l generalizing s with
  | nil => rfl
  | cons b l ih =>
    obtain ⟨hb, hl⟩ := List.ne_and_not_mem_of_not_mem_cons ha
    exact (ih hl).trans (h.others hb.symm)

/-- Each area of a list without duplicates is taken once. -/
theorem foldl_listed (h : TakesArea f upd) (d : l.Nodup) (ha : a ∈ l) :
    (l.foldl f s).clm.list.contains a = (upd (areaView s a)).listed := by
  induction l generalizing s with
  | nil => cases ha
  | cons b l ih =>
    obtain ⟨hb, hd⟩ := List.nodup_cons.1 d
    rcases List.mem_cons.1 ha with rfl | ha
    · exact (congrArg AreaView.listed (h.foldl_others hb)).trans h.listed
    · have ne : b ≠ a := fun e => hb (e ▸ ha)
      exact (ih hd ha).trans (by rw [h.others ne])

theorem foldl_state (h : TakesArea f upd) (d : l.Nodup) (ha : a ∈ l) (room : a < s.clm.areas.length) :
    areaAt (l.foldl f s) a = (upd (areaView s a)).state := by
  induction l generalizing s with
  | nil => cases ha
  | cons b l ih =>
    obtain ⟨hb, hd⟩ := List.nodup_cons.1 d
    rcases List.mem_cons.1 ha with rfl | ha
    · exact (congrArg AreaView.state (h.foldl_others hb)).trans (h.state room)
    · have ne : b ≠ a := fun e => hb (e ▸ ha)
      exact (ih hd ha (h.size.symm ▸ room)).trans (by rw [h.others ne])

end TakesArea

/-! ## Listing, opening and checking an area -/

@[simp] theorem post_clm (n : Notice) (s : State) : (post n s).clm = s.clm := by
  unfold post
  split <;> rfl

theorem makeDue_list (a : Nat) (s : State) : (makeDue a s).clm.list = s.clm.list := by
  unfold makeDue
  split <;> rfl

theorem makeDue_areas (a : Nat) (s : State) : (makeDue a s).clm.areas = s.clm.areas := by
  unfold makeDue
  split <;> rfl

/-- An area that is listed stays; another is listed, NEEDED (R122). -/
def AreaView.list (v : AreaView) : AreaView := if v.listed then v else ⟨true, ⟨.needed, 0⟩⟩

/-- Step 4 of R124: a CHECKING area is NEEDED again, another is listed. -/
def AreaView.open (v : AreaView) : AreaView := if v.state.status = .checking then { v with state := ⟨.needed, 0⟩ } else v.list

/-- R125: a listed NEEDED area is CHECKING. -/
def AreaView.check (v : AreaView) : AreaView :=
  if v.listed = true ∧ v.state.status = .needed then { v with state := ⟨.checking, 0⟩ } else v

/-- A bank in which an area is set to what it is. -/
theorem areas_set_areaAt (s : State) (a : Nat) : s.clm.areas.set a (areaAt s a) = s.clm.areas := by
  by_cases room : a < s.clm.areas.length
  · simp [areaAt, room]
  · exact List.set_eq_of_length_le (Nat.le_of_not_lt room)

/-- An area that stays as it is. -/
theorem contains_self (s : State) (a b : Nat) :
    s.clm.list.contains b = if b = a then (areaView s a).listed else s.clm.list.contains b := by
  split
  · rename_i e
    rw [e]
    rfl
  · rfl

theorem listArea_takes : TakesArea listArea AreaView.list := by
  have told (s : State) (a : Nat) : (listArea s a).clm.list = (if s.clm.list.contains a then s.clm.list
        else insertArea s.pms a s.clm.list) ∧
      (listArea s a).clm.areas = if s.clm.list.contains a then s.clm.areas else s.clm.areas.set a ⟨.needed, 0⟩ := by
    unfold listArea areaNotice
    dsimp only
    split
    · exact ⟨rfl, rfl⟩
    · split <;> simp [makeDue_list, makeDue_areas]
  refine ⟨fun s a => ?_, fun s a b => ?_⟩
  · rw [(told s a).2]
    cases listed : s.clm.list.contains a with
    | true =>
      have same : (areaView s a).list = areaView s a := if_pos listed
      rw [same]
      exact (areas_set_areaAt s a).symm
    | false =>
      have new : (areaView s a).list = ⟨true, ⟨.needed, 0⟩⟩ := if_neg (by simpa [areaView] using listed)
      rw [new]
      rfl
  · rw [(told s a).1]
    cases listed : s.clm.list.contains a with
    | true =>
      have same : (areaView s a).list = areaView s a := if_pos listed
      rw [same]
      exact contains_self s a b
    | false =>
      have new : (areaView s a).list = ⟨true, ⟨.needed, 0⟩⟩ := if_neg (by simpa [areaView] using listed)
      rw [new]
      by_cases e : b = a
      · simp [e, (insertArea_perm s.pms a s.clm.list).mem_iff]
      · simp [e, (insertArea_perm s.pms a s.clm.list).mem_iff]

theorem openArea_takes : TakesArea openArea AreaView.open := by
  have checking {s : State} {a : Nat} (h : (areaAt s a).status = .checking) :
      (areaView s a).open = { areaView s a with state := ⟨.needed, 0⟩ } := if_pos h
  have other {s : State} {a : Nat} (h : ¬(areaAt s a).status = .checking) : (areaView s a).open = (areaView s a).list := if_neg h
  refine ⟨fun s a => ?_, fun s a b => ?_⟩
  all_goals
    unfold openArea
    split
  · rw [checking ‹_›]
    simp [areaNotice]
  · rw [other ‹_›]
    exact listArea_takes.areas s a
  · rw [checking ‹_›]
    simpa [areaNotice] using contains_self s a b
  · rw [other ‹_›]
    exact listArea_takes.list s a b

/-- One area of a closed cover: it begins its check when it is listed and NEEDED (R125). -/
def checkArea (s : State) (a : Nat) : State :=
  if s.clm.list.contains a ∧ (areaAt s a).status = .needed then areaNotice a .check none (setArea a ⟨.checking, 0⟩ s) else s

theorem checkArea_takes : TakesArea checkArea AreaView.check := by
  refine ⟨fun s a => ?_, fun s a b => ?_⟩
  all_goals
    unfold checkArea
    split
  · have new : (areaView s a).check = { areaView s a with state := ⟨.checking, 0⟩ } := if_pos ‹_›
    rw [new]
    simp [areaNotice]
  · have same : (areaView s a).check = areaView s a := if_neg ‹_›
    rw [same]
    exact (areas_set_areaAt s a).symm
  · have new : (areaView s a).check = { areaView s a with state := ⟨.checking, 0⟩ } := if_pos ‹_›
    rw [new]
    simpa [areaNotice] using contains_self s a b
  · have same : (areaView s a).check = areaView s a := if_neg ‹_›
    rw [same]
    exact contains_self s a b

end Sys2Proof.Machine
end

section
/-! SUPPORT. COVER_EVENT (R25, R31, R101, R124, R125, R131), and the obligation CoversJudged. -/

namespace Sys2Proof.Machine

/-! ## The event -/

/-- The pin of a cover line at `o`. -/
def coverPinned (line : Nat) (o : Bool) (s : State) : State :=
  { s with pins := { s.pins with covers := s.pins.covers.set line o } }

/-- The pin of a cover line and its debounced state at `o` (R31). -/
def coverFlipped (line : Nat) (o : Bool) (s : State) : State :=
  { coverPinned line o s with
    sfe := { s.sfe with covers := s.sfe.covers.set line o, coverCount := s.sfe.coverCount.set line 0 } }

/-- A level that the part holds already moves only the pin. -/
theorem coverEvent_held {line : Nat} {o : Bool} {s : State} (w : Awake s) (h : s.sfe.covers[line]? ≠ some (!o)) :
    exec (.coverEvent line o) s = .next (coverPinned line o s) := by
  refine congrArg Host.Outcome.next ((takeEvent_live (s := coverPinned line o s) w.1).trans ?_)
  exact (congrArg finish (if_neg h)).trans (finish_settled w.2)

theorem coverEvent_flips {line : Nat} {o : Bool} {s : State} (w : Awake s) (h : s.sfe.covers[line]? = some (!o)) :
    exec (.coverEvent line o) s = .next (finish (coverChanged (.line line) o (coverFlipped line o s))) := by
  refine congrArg Host.Outcome.next ((takeEvent_live (s := coverPinned line o s) w.1).trans ?_)
  exact congrArg finish (if_pos h)

/-- A cover event that leaves no command half done. -/
theorem coverEvent_plain {line : Nat} {o : Bool} {s t : State} (w : Awake s) (h : s.sfe.covers[line]? = some (!o))
    (e : coverChanged (.line line) o (coverFlipped line o s) = t) (q : Settled t) : exec (.coverEvent line o) s = .next t := by
  rw [coverEvent_flips w h, e, finish_settled q]

theorem coverChanged_bare {c : CoverSource} {o : Bool} {s : State} (h : areasOfCover s.pms c = []) : coverChanged c o s = s := by
  simp [coverChanged, h]

theorem coverChanged_closes {c : CoverSource} {s : State} : coverChanged c false s =
    if areasOfCover s.pms c = [] then s else coverClosing (areasOfCover s.pms c) s := by
  cases h : areasOfCover s.pms c <;> simp [coverChanged, h]

theorem coverChanged_opens {c : CoverSource} {s : State} (h : areasOfCover s.pms c ≠ []) : coverChanged c true s =
    if s.rcv.path = .clearing ∨ s.rcv.path = .resumable then coverOpening (areasOfCover s.pms c) (abortCalibration s)
    else raiseCover (areasOfCover s.pms c) (abortCalibration s) := by
  have path : (abortCalibration s).rcv.path = s.rcv.path := by
    unfold abortCalibration
    split <;> rfl
  have named : (areasOfCover s.pms c).isEmpty = false := by simpa using h
  unfold coverChanged
  simp only [named, if_true, Bool.false_eq_true, if_false]
  rw [← path]
  split
  · rw [if_pos (.inl ‹_›)]
  · rw [if_pos (.inr ‹_›)]
  · rw [if_neg (by tauto)]

/-! ## A cover opened outside recovery -/

theorem raiseCover_halting {as : List Nat} {s : State} (h : s.rcv.path = .halting) : raiseCover as s = joinAreas as s := by
  simp [raiseCover, h]

theorem raiseCover_jams {as : List Nat} {s : State} (h : s.rcv.path ≠ .halting) :
    raiseCover as s = raiseJam ⟨.cover, none, none, none, none, none, s.sys.now⟩ as s := by
  unfold raiseCover
  split
  · exact absurd ‹_› h
  · rfl

/-- A cover opened in ARMED, RUNNING or RUNOUT is a cause (R101, R102, R117). -/
theorem raiseCover_fails {as : List Nat} {s : State} (h : s.rcv.path = .armed ∨ Driven s) (room : Room 1 s) (q : Settled s) :
    finish (raiseCover as s) = failed ⟨.cover, none, none, none, none, none, s.sys.now⟩ as s := by
  have active : s.rcv.path ≠ .halting := by
    rcases h with h | h | h <;> simp [h]
  rw [raiseCover_jams active, finish_untouched (by rw [raiseJam_rpq]; exact q.1)]
  rcases h with h | h
  · rw [raiseJam_halts (.inl h) room, failed, if_neg (by simp [h])]
    exact closeEvent_settled q.2
  · exact raiseJam_fails h room q.2

/-! ## A cover opened in recovery -/

theorem openArea_aside (s : State) (a : Nat) : Aside s (openArea s a) := by
  unfold openArea
  split
  · exact Aside.trans ⟨_, _, _, rfl⟩ (post_aside _ _)
  · exact listArea_aside s a

section Views

variable {l : List Nat} {s : State} {a : Nat} (d : l.Nodup)
include d

/-- Areas listed one after another (R122). -/
theorem listAreas_mem : a ∈ (l.foldl listArea s).clm.list ↔ a ∈ s.clm.list ∨ a ∈ l := by
  rw [← List.contains_iff_mem, ← List.contains_iff_mem (as := s.clm.list)]
  by_cases ha : a ∈ l
  · rw [listArea_takes.foldl_listed d ha]
    simp only [ha, or_true, iff_true, AreaView.list]
    split
    · assumption
    · rfl
  · have same := congrArg AreaView.listed (listArea_takes.foldl_others (s := s) ha)
    simp only [ha, or_false]
    exact Bool.eq_iff_iff.1 same

theorem listAreas_areaAt (room : a < s.clm.areas.length) :
    (a ∉ s.clm.list ∧ a ∈ l → areaAt (l.foldl listArea s) a = ⟨.needed, 0⟩) ∧
      (¬(a ∉ s.clm.list ∧ a ∈ l) → areaAt (l.foldl listArea s) a = areaAt s a) := by
  by_cases ha : a ∈ l
  · rw [listArea_takes.foldl_state d ha room]
    by_cases hs : a ∈ s.clm.list <;> simp [AreaView.list, areaView, ha, hs]
  · exact ⟨fun h => absurd h.2 ha, fun _ => congrArg AreaView.state (listArea_takes.foldl_others (s := s) ha)⟩

/-- Step 4 of R124 on areas one after another. -/
theorem openAreas_mem : a ∈ (l.foldl openArea s).clm.list ↔ a ∈ s.clm.list ∨ (a ∈ l ∧ (areaAt s a).status ≠ .checking) := by
  rw [← List.contains_iff_mem, ← List.contains_iff_mem (as := s.clm.list)]
  by_cases ha : a ∈ l
  · rw [openArea_takes.foldl_listed d ha]
    by_cases hc : (areaAt s a).status = .checking
    · simp [AreaView.open, areaView, hc]
    · by_cases hs : a ∈ s.clm.list <;> simp [AreaView.open, AreaView.list, areaView, hc, hs, ha]
  · have same := congrArg AreaView.listed (openArea_takes.foldl_others (s := s) ha)
    simp only [ha, false_and, or_false]
    exact Bool.eq_iff_iff.1 same

theorem openAreas_areaAt (room : a < s.clm.areas.length) :
    (a ∈ l ∧ ((areaAt s a).status = .checking ∨ a ∉ s.clm.list) → areaAt (l.foldl openArea s) a = ⟨.needed, 0⟩) ∧
      (¬(a ∈ l ∧ ((areaAt s a).status = .checking ∨ a ∉ s.clm.list)) → areaAt (l.foldl openArea s) a = areaAt s a) := by
  by_cases ha : a ∈ l
  · rw [openArea_takes.foldl_state d ha room]
    by_cases hc : (areaAt s a).status = .checking
    · simp [AreaView.open, areaView, hc, ha]
    · by_cases hs : a ∈ s.clm.list <;> simp [AreaView.open, AreaView.list, areaView, hc, hs, ha]
  · exact ⟨fun h => absurd h.1 ha, fun _ => congrArg AreaView.state (openArea_takes.foldl_others (s := s) ha)⟩

end Views

/-- The part in CLEARING, its records that R124 takes given REMOVE. -/
def removing124 (as : List Nat) (s : State) : State :=
  setList (s.flt.list.map fun r => if takesRemove s as r then { r with disp := some .remove } else r) (setPath .clearing s)

theorem coverOpening_eq {as : List Nat} {s : State} (h : s.rcv.path = .clearing ∨ s.rcv.path = .resumable) :
    coverOpening as s = (inListOrder s.pms as).foldl openArea
      ((inListOrder s.pms (touchedAreas s.pms (s.flt.list.filter (takesRemove s as)))).foldl listArea (removing124 as s)) := by
  unfold coverOpening giveRemove removing124
  rcases h with h | h
  · have same : setPath .clearing s = s := by rw [← h]; rfl
    rw [same]
    simp [h, listAreas]
  · simp [h, listAreas]

theorem coverOpening_aside {as : List Nat} {s : State} (h : s.rcv.path = .clearing ∨ s.rcv.path = .resumable) :
    Aside (removing124 as s) (coverOpening as s) := by
  rw [coverOpening_eq h]
  exact (Aside.foldl listArea_aside _ _).trans (Aside.foldl openArea_aside _ _)

theorem mem_touchedAreas {m : MapStore} {rs : List Record} {a : Nat} :
    a ∈ touchedAreas m rs ↔ ∃ r ∈ rs, a ∈ bodyAreas m r := by
  simp only [touchedAreas, mem_areaSet, List.any_eq_true, List.contains_iff_mem]
  refine ⟨fun h => h.2, fun ⟨r, hr, ha⟩ => ⟨(mem_areaSet.1 ha).1, r, hr, ha⟩⟩

/-- An area beyond the bank stays as it is. -/
theorem areaAt_beyond {s : State} {a : Nat} (h : ¬a < s.clm.areas.length) : areaAt s a = .reset := by
  simp [areaAt, List.getElem?_eq_none (Nat.le_of_not_lt h)]

/-- Area `a` is touched by a record that R124 takes. -/
def Touched124 (s : State) (as : List Nat) (a : Nat) : Prop := ∃ r ∈ s.flt.list, takesRemove s as r = true ∧ a ∈ bodyAreas s.pms r

theorem mem_touched124 {s : State} {as : List Nat} {a : Nat} :
    a ∈ inListOrder s.pms (touchedAreas s.pms (s.flt.list.filter (takesRemove s as))) ↔ Touched124 s as a := by
  rw [(inListOrder_perm _ _).mem_iff, mem_touchedAreas]
  simp [Touched124, and_assoc]

/-- The part after step 3 of R124: the areas under the records given REMOVE listed. -/
def listed124 (as : List Nat) (s : State) : State :=
  (inListOrder s.pms (touchedAreas s.pms (s.flt.list.filter (takesRemove s as)))).foldl listArea (removing124 as s)

theorem touched124_nodup (s : State) (as : List Nat) :
    (inListOrder s.pms (touchedAreas s.pms (s.flt.list.filter (takesRemove s as)))).Nodup :=
  (inListOrder_perm _ _).nodup_iff.2 (areaSet_nodup _)

theorem listed124_mem {as : List Nat} {s : State} {a : Nat} :
    a ∈ (listed124 as s).clm.list ↔ a ∈ s.clm.list ∨ Touched124 s as a := by
  rw [listed124, listAreas_mem (touched124_nodup s as), mem_touched124]
  rfl

theorem listed124_areaAt {as : List Nat} {s : State} {a : Nat} (room : a < s.clm.areas.length) :
    (a ∉ s.clm.list ∧ Touched124 s as a → areaAt (listed124 as s) a = ⟨.needed, 0⟩) ∧
      (¬(a ∉ s.clm.list ∧ Touched124 s as a) → areaAt (listed124 as s) a = areaAt s a) := by
  rw [← mem_touched124]
  exact listAreas_areaAt (s := removing124 as s) (touched124_nodup s as) room

theorem listed124_size (as : List Nat) (s : State) : (listed124 as s).clm.areas.length = s.clm.areas.length :=
  listArea_takes.foldl_size

/-- When step 4 of R124 finds an area that step 3 has not listed: the area is listed, touched, of the cover, or CHECKING. -/
theorem needed_again {listed touched covered checking : Prop} (old : ¬(¬listed ∧ touched)) :
    covered ∧ (checking ∨ ¬(listed ∨ touched)) ↔ (¬listed ∧ (covered ∨ touched)) ∨ (covered ∧ checking) := by
  tauto

section Opening

variable {as : List Nat} {s : State} {a : Nat} (h : s.rcv.path = .clearing ∨ s.rcv.path = .resumable) (d : as.Nodup)
include h d

theorem coverOpening_mem : a ∈ (coverOpening as s).clm.list ↔
    a ∈ s.clm.list ∨ Touched124 s as a ∨ (a ∈ as ∧ (areaAt s a).status ≠ .checking) := by
  rw [coverOpening_eq h, openAreas_mem ((inListOrder_perm s.pms as).nodup_iff.2 d), (inListOrder_perm s.pms as).mem_iff]
  refine (or_congr_left listed124_mem).trans ?_
  rw [or_assoc]
  by_cases room : a < s.clm.areas.length
  · obtain ⟨-, old⟩ := listed124_areaAt (as := as) room
    by_cases new : a ∉ s.clm.list ∧ Touched124 s as a
    · simp [new]
    · exact or_congr_right (or_congr_right (and_congr_right fun _ => not_congr (by rw [← old new]; rfl)))
  · have state : areaAt (listed124 as s) a = areaAt s a := by
      rw [areaAt_beyond room, areaAt_beyond (by rwa [listed124_size])]
    exact or_congr_right (or_congr_right (and_congr_right fun _ => not_congr (by rw [← state]; rfl)))

theorem coverOpening_areaAt (room : a < s.clm.areas.length) :
    ((a ∉ s.clm.list ∧ (a ∈ as ∨ Touched124 s as a)) ∨ (a ∈ as ∧ (areaAt s a).status = .checking) →
      (areaAt (coverOpening as s) a).status = .needed) ∧
    (¬((a ∉ s.clm.list ∧ (a ∈ as ∨ Touched124 s as a)) ∨ (a ∈ as ∧ (areaAt s a).status = .checking)) →
      areaAt (coverOpening as s) a = areaAt s a) := by
  obtain ⟨new, old⟩ := listed124_areaAt (as := as) room
  obtain ⟨hit, miss⟩ := openAreas_areaAt (s := listed124 as s) (a := a) ((inListOrder_perm s.pms as).nodup_iff.2 d)
    (by rwa [listed124_size])
  rw [(inListOrder_perm s.pms as).mem_iff, listed124_mem] at hit miss
  have e : areaAt (coverOpening as s) a = areaAt ((inListOrder s.pms as).foldl openArea (listed124 as s)) a :=
    congrArg (areaAt · a) (coverOpening_eq h)
  rw [e]
  by_cases fresh : a ∉ s.clm.list ∧ Touched124 s as a
  · have needed := new fresh
    have status : ¬(areaAt (listed124 as s) a).status = .checking := by
      rw [needed]
      decide
    rw [miss fun c => c.2.elim status fun n => n (.inr fresh.2), needed]
    exact ⟨fun _ => rfl, fun no => absurd (.inl ⟨fresh.1, .inr fresh.2⟩) no⟩
  · rw [old fresh] at hit miss
    rw [needed_again fresh] at hit miss
    exact ⟨fun yes => congrArg AreaState.status (hit yes), miss⟩

end Opening

/-- A record that RETAIN holds and whose body touches one of the areas (step 1 of R124). -/
def Hit124 (s : State) (as : List Nat) (r : Record) : Prop := r.disp = some .retain ∧ ∃ a ∈ as, a ∈ bodyAreas s.pms r

theorem takesRemove_iff {s : State} {as : List Nat} {r : Record} : takesRemove s as r = true ↔
    r.disp = some .retain ∧ (Hit124 s as r ∨ (r.unordered = false ∧
      ∃ q ∈ s.flt.list, Hit124 s as q ∧ streamOf s.pms q = streamOf s.pms r ∧ q.ordinal < r.ordinal)) := by
  have hit (q : Record) : (retained q && (bodyAreas s.pms q).any as.contains) = true ↔ Hit124 s as q := by
    simp [Hit124, retained, and_comm]
  simp only [takesRemove, Bool.and_eq_true, Bool.or_eq_true, List.any_eq_true, hit, beq_iff_eq, decide_eq_true_eq,
    Bool.not_eq_true']
  simp [retained, and_assoc]

/-! ## A cover closed in recovery -/

theorem checkArea_aside (s : State) (a : Nat) : Aside s (checkArea s a) := by
  unfold checkArea
  split
  · exact Aside.trans ⟨_, _, _, rfl⟩ (post_aside _ _)
  · exact .refl s

theorem checkArea_listed (s : State) (a : Nat) : (checkArea s a).clm.list = s.clm.list ∧ (checkArea s a).clm.due = s.clm.due := by
  unfold checkArea
  split <;> simp [areaNotice]

theorem checkAreas_listed (l : List Nat) (s : State) :
    (l.foldl checkArea s).clm.list = s.clm.list ∧ (l.foldl checkArea s).clm.due = s.clm.due := by
  induction l generalizing s with
  | nil => exact ⟨rfl, rfl⟩
  | cons a l ih =>
    obtain ⟨list, due⟩ := checkArea_listed s a
    exact ⟨(ih _).1.trans list, (ih _).2.trans due⟩

theorem checkAreas_areaAt {l : List Nat} {s : State} {a : Nat} (d : l.Nodup) (room : a < s.clm.areas.length) :
    (a ∈ l ∧ a ∈ s.clm.list ∧ (areaAt s a).status = .needed → areaAt (l.foldl checkArea s) a = ⟨.checking, 0⟩) ∧
      (¬(a ∈ l ∧ a ∈ s.clm.list ∧ (areaAt s a).status = .needed) → areaAt (l.foldl checkArea s) a = areaAt s a) := by
  by_cases ha : a ∈ l
  · rw [checkArea_takes.foldl_state d ha room]
    refine ⟨fun h => ?_, fun h => ?_⟩
    · simp [AreaView.check, areaView, h]
    · simp [AreaView.check, areaView, show ¬(a ∈ s.clm.list ∧ (areaAt s a).status = .needed) from fun n => h ⟨ha, n⟩]
  · exact ⟨fun h => absurd h.1 ha, fun _ => congrArg AreaView.state (checkArea_takes.foldl_others (s := s) ha)⟩

theorem coverClosing_eq {as : List Nat} {s : State} (h : s.rcv.path = .clearing) :
    coverClosing as s = decideResumable ((inListOrder s.pms as).foldl checkArea s) := if_pos h

theorem decideResumable_listed {s : State} (h : s.clm.list ≠ []) : decideResumable s = s :=
  if_neg fun c => h (List.isEmpty_iff.1 c.2.1)

theorem coverClosing_listed {as : List Nat} {s : State} (h : s.rcv.path = .clearing) (l : s.clm.list ≠ []) :
    coverClosing as s = (inListOrder s.pms as).foldl checkArea s := by
  rw [coverClosing_eq h]
  exact decideResumable_listed (by rwa [(checkAreas_listed _ s).1])

theorem coverClosing_unlisted {as : List Nat} {s : State} (h : s.rcv.path = .clearing) (l : s.clm.list = []) :
    coverClosing as s = decideResumable s := by
  have unchanged (as : List Nat) : as.foldl checkArea s = s := by
    induction as with
    | nil => rfl
    | cons a as ih =>
      have same : checkArea s a = s := if_neg (by simp [l])
      rw [List.foldl_cons, same, ih]
  rw [coverClosing_eq h, unchanged]

/-- RESUMABLE entered from CLEARING (R131): READY is noticed, no check is due, and no expectation stands. -/
theorem enterResumable_clear {s : State} (h : s.rcv.path = .clearing) (room : Room 1 s) : enterResumable s =
    noticed [.ready s.flt.list.length s.rpq.queue.length s.rpq.incomplete]
      { s with
        clm := { s.clm with due := [] }
        rcv := { s.rcv with path := .resumable }
        flt := { s.flt with list := s.flt.list.map fun r => { r with leadExp := none, trailExp := none } } } := by
  have held : holdPositions s = setList (s.flt.list.map fun r => { r with leadExp := none, trailExp := none }) s := by
    simp [holdPositions, h]
  have entered : Room 1 (setDue [] (setPath .resumable (holdPositions s))) := by rwa [held]
  refine (post_room _ entered).trans ?_
  rw [held]
  simp [setDue, setPath, setList]

/-- A closed cover's area begins its check (R125). -/
theorem checkArea_starts {a : Nat} {s : State} (listed : a ∈ s.clm.list) (n : (areaAt s a).status = .needed)
    (len : a < s.clm.areas.length) (c : coverOf s a = some false) (room : Room 1 s) : checkArea s a =
      noticed [.area a .checking (some false) s.clm.list.length .check none] (setArea a ⟨.checking, 0⟩ s) := by
  have starts : checkArea s a = areaNotice a .check none (setArea a ⟨.checking, 0⟩ s) :=
    if_pos ⟨List.contains_iff_mem.2 listed, n⟩
  have state : areaAt (setArea a ⟨.checking, 0⟩ s) a = ⟨.checking, 0⟩ := by simp [areaAt, setArea, len]
  have cover : coverOf (setArea a ⟨.checking, 0⟩ s) a = some false := c
  rw [starts, areaNotice, state, cover, post_room (s := setArea a ⟨.checking, 0⟩ s) _ room]
  rfl

theorem coverOf_line {line a : Nat} {s : State} (h : a ∈ areasOfCover s.pms (.line line)) :
    coverOf s a = some ((s.sfe.covers[line]?).getD false) := by
  obtain ⟨e, he, source⟩ := (Option.any_eq_true _ _).1 (mem_areaSet.1 h).2
  rw [coverOf, he, Option.bind_some, eq_of_beq source]
  rfl

theorem removing124_getElem? {as : List Nat} {s : State} {i : Nat} {r : Record} (h : s.flt.list[i]? = some r) :
    (takesRemove s as r = true → (removing124 as s).flt.list[i]? = some { r with disp := some .remove }) ∧
      (¬takesRemove s as r = true → (removing124 as s).flt.list[i]? = some r) := by
  have at_ : (removing124 as s).flt.list[i]? = some (if takesRemove s as r then { r with disp := some .remove } else r) := by
    simp [removing124, setList, h]
  rw [at_]
  exact ⟨fun y => congrArg some (if_pos y), fun n => congrArg some (if_neg n)⟩

/-- What a cover opened in recovery does, on a part that has taken its new state (R124). -/
structure Reopens (as : List Nat) (s t : State) : Prop where
  rcv : t.rcv = { s.rcv with path := .clearing }
  pms : t.pms = s.pms
  sfe : t.sfe = s.sfe
  zdu : t.zdu = s.zdu
  xlm : t.xlm = s.xlm
  rpq : t.rpq = s.rpq
  spm : t.spm = s.spm
  size : t.flt.list.length = s.flt.list.length
  records : ∀ (i : Nat) (r : Record), s.flt.list[i]? = some r →
    (takesRemove s as r = true → t.flt.list[i]? = some { r with disp := some .remove }) ∧
      (¬takesRemove s as r = true → t.flt.list[i]? = some r)
  listed : ∀ a, a ∈ t.clm.list ↔ a ∈ s.clm.list ∨ Touched124 s as a ∨ (a ∈ as ∧ (areaAt s a).status ≠ .checking)
  areas : ∀ a < s.clm.areas.length,
    ((a ∉ s.clm.list ∧ (a ∈ as ∨ Touched124 s as a)) ∨ (a ∈ as ∧ (areaAt s a).status = .checking) →
      (areaAt t a).status = .needed) ∧
    (¬((a ∉ s.clm.list ∧ (a ∈ as ∨ Touched124 s as a)) ∨ (a ∈ as ∧ (areaAt s a).status = .checking)) →
      areaAt t a = areaAt s a)

theorem coverOpening_reopens {as : List Nat} {s : State} (h : s.rcv.path = .clearing ∨ s.rcv.path = .resumable) (d : as.Nodup) :
    Reopens as s (coverOpening as s) := by
  obtain ⟨c, ns, l, eq⟩ := coverOpening_aside (as := as) h
  have flt : (coverOpening as s).flt = (removing124 as s).flt := (congrArg State.flt eq :)
  exact {
    rcv := (congrArg State.rcv eq :)
    pms := (congrArg State.pms eq :)
    sfe := (congrArg State.sfe eq :)
    zdu := (congrArg State.zdu eq :)
    xlm := (congrArg State.xlm eq :)
    rpq := (congrArg State.rpq eq :)
    spm := (congrArg State.spm eq :)
    size := by
      rw [flt]
      exact List.length_map _
    records := fun i r hr => by
      rw [flt]
      exact removing124_getElem? hr
    listed := fun a => coverOpening_mem h d
    areas := fun a room => coverOpening_areaAt h d room }

/-! ## The statement -/

/-- The state in which a cover event ends a calibration. -/
theorem abortCalibration_eq (s : State) : abortCalibration s =
    match s.sfe.calib with
    | some c => replied 0x47 c.tag .state false [] { s with sfe := { s.sfe with calib := none } }
    | none => s := by
  unfold abortCalibration
  cases s.sfe.calib <;> rfl

/-- What a calibration's end leaves to a cover event: it moves the SFE and the reply alone. -/
theorem abortCalibration_moves (s : State) :
    ∃ v w, abortCalibration s = { s with sfe := v, clk := { s.clk with reply := w } } := by
  unfold abortCalibration
  split <;> exact ⟨_, _, rfl⟩

/-- Settles O36: each list of areas is taken one area after another, so an area ends as its own turn leaves it. -/
theorem coversJudged : Obligations.CoversJudged := by
  intro line o s w p f as ended
  refine ⟨coverEvent_held w, fun h => ?_⟩
  have plain {t : State} (e : coverChanged (.line line) o f = t) (q : Settled t) : exec (.coverEvent line o) s = .next t :=
    coverEvent_plain w h e q
  refine ⟨fun quiet => plain ?_ w.2, fun opens named => ?_, fun closes named path => ?_⟩
  · rcases quiet with bare | ⟨rfl, path⟩
    · exact coverChanged_bare bare
    · exact coverChanged_closes.trans (ite_eq_left_iff.2 fun _ => if_neg path)
  · subst opens
    have aborted : abortCalibration f = ended := abortCalibration_eq f
    have opening : coverChanged (.line line) true f =
        if s.rcv.path = .clearing ∨ s.rcv.path = .resumable then coverOpening as ended else raiseCover as ended := by
      rw [← aborted]
      exact coverChanged_opens named
    obtain ⟨v, x, eq⟩ := abortCalibration_moves f
    rw [aborted] at eq
    clear_value ended
    subst eq
    clear aborted
    set ended : State := { f with sfe := v, clk := { f.clk with reply := x } }
    have aside (h : ¬(s.rcv.path = .clearing ∨ s.rcv.path = .resumable)) := opening.trans (if_neg h)
    refine ⟨fun path => plain ((aside (by simp [path])).trans ?_) w.2, fun path room => ?_, fun path => plain ?_ w.2,
      fun path => ?_⟩
    · exact (raiseCover_jams (fun e => by cases path.symm.trans e)).trans (raiseJam_ignored (.inl path))
    · have active : ¬(s.rcv.path = .clearing ∨ s.rcv.path = .resumable) := by
        rcases path with path | path | path <;> simp [path]
      exact (coverEvent_flips w h).trans (congrArg Host.Outcome.next ((congrArg finish (aside active)).trans
        (raiseCover_fails path room w.2)))
    · exact (aside (by simp [path])).trans (raiseCover_halting path)
    · intro hit falls touched
      have reopens := coverOpening_reopens (as := as) (s := ended) path (areaSet_nodup _)
      have settled : Settled (coverOpening as ended) :=
        ⟨(congrArg Rpq.touched reopens.rpq).trans w.2.1, (congrArg (·.moment.underway) reopens.rcv).trans w.2.2⟩
      have judged (r : Record) : takesRemove ended as r = true ↔ falls r := takesRemove_iff
      have touches : Touched124 ended as = touched :=
        funext fun a => propext (exists_congr fun r => and_congr_right fun _ => and_congr_left' (judged r))
      have listed := reopens.listed
      have areas := reopens.areas
      rw [touches] at listed areas
      exact ⟨_, plain (opening.trans (if_pos path)) settled, reopens.rcv, reopens.pms, reopens.sfe, reopens.zdu, reopens.xlm,
        reopens.rpq, reopens.spm, reopens.size,
        fun i r hr => ⟨fun y => (reopens.records i r hr).1 ((judged r).2 y),
          fun n => (reopens.records i r hr).2 (mt (judged r).1 n)⟩,
        listed, areas⟩
  · subst closes
    have closing : coverChanged (.line line) false f = coverClosing as f := coverChanged_closes.trans (if_neg named)
    have nodup : (inListOrder s.pms as).Nodup := (inListOrder_perm _ _).nodup_iff.2 (areaSet_nodup _)
    refine ⟨fun listed => ?_, fun a one starts room queue => ?_, fun unlisted covers => ?_, fun unlisted covers queue => ?_⟩
    · obtain ⟨list, due⟩ := checkAreas_listed (inListOrder s.pms as) f
      have after := closing.trans (coverClosing_listed (s := f) path listed)
      obtain ⟨c, ns, l, eq⟩ := Aside.foldl checkArea_aside (inListOrder s.pms as) f
      have settled : Settled ((inListOrder s.pms as).foldl checkArea f) := by
        rw [eq]
        exact w.2
      refine ⟨_, plain after settled, (congrArg State.rcv eq :), (congrArg State.flt eq :), (congrArg State.sfe eq :),
        list, due, fun a room => ?_⟩
      have areas := checkAreas_areaAt (s := f) nodup room
      rw [(inListOrder_perm s.pms as).mem_iff] at areas
      exact areas
    · obtain ⟨mem, listed, needed⟩ := starts
      have held : line < s.sfe.covers.length := (List.getElem?_eq_some_iff.1 h).1
      have cover : coverOf f a = some false := by
        rw [coverOf_line (s := f) (line := line) mem]
        simp [f, held]
      refine plain (closing.trans ((coverClosing_listed (s := f) path (List.ne_nil_of_mem listed)).trans ?_)) w.2
      rw [one]
      exact checkArea_starts listed needed room cover queue
    · refine plain (closing.trans ((coverClosing_unlisted (s := f) path unlisted).trans (if_neg fun c => ?_))) w.2
      rw [covers] at c
      exact Bool.false_ne_true c.2.2
    · refine plain (closing.trans ((coverClosing_unlisted (s := f) path unlisted).trans ((if_pos ⟨path, ?_, covers⟩).trans
        (enterResumable_clear path queue)))) w.2
      exact List.isEmpty_iff.2 unlisted

end Sys2Proof.Machine
end

section
/-! SUPPORT. GATE_FEEDBACK (R32, R43, R45, R46, R117), and the obligation FeedbackConfirms. -/

namespace Sys2Proof.Machine

/-! ## The event -/

/-- The pin of a feedback line at `pos`. -/
def feedbackPinned (line : Nat) (pos : Bool) (s : State) : State :=
  { s with pins := { s.pins with feedback := s.pins.feedback.set line pos } }

/-- The pin of a feedback line and its reading at `pos` (R32). -/
def feedbackFlipped (line : Nat) (pos : Bool) (s : State) : State :=
  { feedbackPinned line pos s with
    sfe := { s.sfe with feedback := s.sfe.feedback.set line pos, feedbackRun := s.sfe.feedbackRun.set line 0 } }

/-- A level that the part holds already moves only the pin. -/
theorem gateFeedback_held {line : Nat} {pos : Bool} {s : State} (w : Awake s) (h : s.sfe.feedback[line]? ≠ some (!pos)) :
    exec (.gateFeedback line pos) s = .next (feedbackPinned line pos s) := by
  refine congrArg Host.Outcome.next ((takeEvent_live (s := feedbackPinned line pos s) w.1).trans ?_)
  exact (congrArg finish (if_neg h)).trans (finish_settled w.2)

/-- The gates that read a line. -/
def gatesOfLine (m : MapStore) (line : Nat) : List (Nat × GateEntry) :=
  (definedEntries m.gates).filter fun p => p.2.fbLine == line

theorem gateFeedback_flips {line : Nat} {pos : Bool} {s t : State} (w : Awake s) (h : s.sfe.feedback[line]? = some (!pos))
    (e : (gatesOfLine s.pms line).foldl (gateReads pos) (feedbackFlipped line pos s) = t) :
    exec (.gateFeedback line pos) s = .next (finish (gateTestStep t)) := by
  subst e
  refine congrArg Host.Outcome.next ((takeEvent_live (s := feedbackPinned line pos s) w.1).trans ?_)
  exact congrArg finish (if_pos h)

theorem gateTestStep_idle {s : State} (h : s.zdu.armTest = none) : gateTestStep s = s := by
  simp [gateTestStep, h]

/-! ## The gate's status -/

theorem losesConfirmation_iff (pos : Bool) (q : GateState) :
    losesConfirmation pos q = true ↔ q.status = .confirmed ∧ q.cmd ≠ some pos := by
  simp [losesConfirmation]

theorem afterReading_eq (pos : Bool) (q : GateState) : afterReading pos q =
    if q.cmd = some pos ∧ q.status = .moving then { q with status := .confirmed, faulted := false }
    else if q.status = .confirmed ∧ q.cmd ≠ some pos then { q with status := .moving, timer := 0, expired := false }
    else q := by
  unfold afterReading
  by_cases cmd : q.cmd = some pos <;> simp [cmd]

/-- A gate that has lost its confirmation is MOVING. -/
theorem afterReading_lost {pos : Bool} {q : GateState} (h : losesConfirmation pos q = true) :
    (afterReading pos q).status = .moving := by
  obtain ⟨confirmed, other⟩ := (losesConfirmation_iff pos q).1 h
  simp [afterReading, confirmed, other]

theorem positioning_iff (s : State) : positioning s = true ↔ Driven s := by
  unfold positioning Driven
  cases s.rcv.path <;> simp

/-! ## GATE jams -/

theorem raiseJam_stops {c : JamCause} {as : List Nat} {s : State} (h : Driven s) : (raiseJam c as s).rcv.path = .halting := by
  rcases h with h | h <;> simp [raiseJam, h, firstCause, secondFailure, setPath, haltZones]

theorem raiseJam_armTest (c : JamCause) (as : List Nat) (s : State) : (raiseJam c as s).zdu.armTest = s.zdu.armTest := by
  have told (n : Notice) (u : State) : (post n u).zdu = u.zdu := by
    unfold post
    split <;> rfl
  unfold raiseJam
  split
  · simp [firstCause, told, haltZones, setPath, setJam]
  · simp [firstCause, told, haltZones, setPath, setJam]
  · simp [secondFailure, told, haltZones, setPath, setJam, setList, setHeld, setMoment]
  · split <;> rfl
  · rfl
  · rfl
  · rfl

/-- A jam while sheets are driven, at the end of a feedback event outside the gate test. -/
theorem finish_jam {c : JamCause} {as : List Nat} {s : State} (h : Driven s) (room : Room 1 s) (q : Settled s)
    (idle : s.zdu.armTest = none) : finish (gateTestStep (raiseJam c as s)) = failed c as s := by
  obtain ⟨touched, underway⟩ := q
  have kept : (raiseJam c as s).rpq.touched = false := (congrArg Rpq.touched (raiseJam_rpq c as s)).trans touched
  rw [gateTestStep_idle ((raiseJam_armTest c as s).trans idle), finish_untouched kept]
  exact raiseJam_fails h room underway

/-- The cause GATE at a gate (R92). -/
def gateCause (e : GateEntry) (d b : Option Int) (s : State) : JamCause :=
  ⟨.gate, none, some e.node, nodeZone s.pms e.node, d, b, s.sys.now⟩

theorem gateJam_setGate {g : Nat} {e : GateEntry} {d b : Option Int} {v : GateState} {s : State} (room : g < s.zdu.gates.length) :
    gateJam g e d b (setGate g v s) =
      raiseJam (gateCause e d b s) (nodeAreas s.pms e.node) (setGate g { v with faulted := true } s) := by
  unfold gateJam
  rw [gateAt_setGate room, setGate_setGate]
  rfl

theorem guardJudge_halted {g : Nat} {s : State} (h : ¬Driven s) : guardJudge g s = s := by
  have still : positioning s = false := by simpa using mt (positioning_iff s).1 h
  unfold guardJudge
  split
  · split
    · exact if_neg (by simp [still])
    · rfl
  · rfl

theorem guardJudge_unserved {g : Nat} {e : GateEntry} {s : State} (he : s.pms.gate? g = some e) (h : served s e = none) :
    guardJudge g s = s := by
  simp [guardJudge, he, h]

/-- The guard case at a gate that is MOVING (R45). -/
theorem guardJudge_moving {g : Nat} {e : GateEntry} {r : Record} {v : GateState} {s : State} (he : s.pms.gate? g = some e)
    (h : served s e = some r) (driven : Driven s) (m : v.status = .moving) (room : g < s.zdu.gates.length) :
    guardJudge g (setGate g v s) = if remaining s.pms r ≤ (e.guard * 100 : Nat)
      then raiseJam (gateCause e (some (remaining s.pms r)) (some (e.guard * 100 : Nat)) s) (nodeAreas s.pms e.node)
        (setGate g { v with faulted := true } s)
      else setGate g v s := by
  have serves : served (setGate g v s) e = some r := h
  have driven' : positioning (setGate g v s) = true := (positioning_iff _).2 driven
  have moves : ¬((gateAt (setGate g v s) g).status = .confirmed ∧ (gateAt (setGate g v s) g).cmd = wants s.pms e r) := by
    rw [gateAt_setGate room, m]
    exact fun c => nomatch c.1
  unfold guardJudge
  rw [setGate_pms, he]
  dsimp only
  rw [serves]
  dsimp only
  by_cases near : remaining s.pms r ≤ (e.guard * 100 : Nat)
  · rw [if_pos near, if_pos ⟨driven', near, moves⟩]
    exact gateJam_setGate room
  · rw [if_neg near, if_neg fun c => near c.2.1]

/-! ## What a reading does to a gate -/

section Reads

variable {pos : Bool} {g : Nat} {e : GateEntry} {s : State}

/-- The gate `g` as a new reading leaves it. -/
def gateTaken (pos : Bool) (g : Nat) (s : State) : State := setGate g (afterReading pos (gateAt s g)) s

theorem gateReads_off (h : ¬(Driven s ∧ bodyOver s e = true)) : gateReads pos s (g, e) =
    if losesConfirmation pos (gateAt s g) then guardJudge g (gateTaken pos g s) else gateTaken pos g s := by
  have off : (positioning (gateTaken pos g s) && bodyOver (gateTaken pos g s) e) = false := by
    rw [Bool.and_eq_false_iff]
    rcases not_and_or.1 h with h | h
    · exact .inl (Bool.eq_false_iff.2 (mt (positioning_iff s).1 h))
    · exact .inr (Bool.eq_false_iff.2 h)
  unfold gateReads
  dsimp only
  rw [← gateTaken, off]
  rfl

theorem gateReads_keeps (he : s.pms.gate? g = some e)
    (h : ¬Driven s ∨ (bodyOver s e = false ∧ (¬losesConfirmation pos (gateAt s g) = true ∨ served s e = none))) :
    gateReads pos s (g, e) = gateTaken pos g s := by
  rw [gateReads_off (by rintro ⟨d, b⟩; simp [d, b] at h)]
  split
  · rcases h with h | ⟨-, h | h⟩
    · exact guardJudge_halted h
    · exact absurd ‹_› h
    · exact guardJudge_unserved he h
  · rfl

theorem gateReads_body (driven : Driven s) (h : bodyOver s e = true) (room : g < s.zdu.gates.length) :
    gateReads pos s (g, e) = raiseJam (gateCause e none none s) (nodeAreas s.pms e.node)
      (setGate g { afterReading pos (gateAt s g) with faulted := true } s) := by
  have on : (positioning (gateTaken pos g s) && bodyOver (gateTaken pos g s) e) = true :=
    Bool.and_eq_true_iff.2 ⟨(positioning_iff _).2 driven, h⟩
  have jams : gateJam g e none none (gateTaken pos g s) = _ := gateJam_setGate room
  have halted {c : JamCause} {as : List Nat} {u : State} (d : Driven u) : ¬Driven (raiseJam c as u) := by
    simp [Driven, raiseJam_stops d]
  unfold gateReads
  dsimp only
  rw [← gateTaken, on, if_pos rfl, jams, guardJudge_halted (halted (u := setGate g _ s) driven), ite_self]

theorem gateReads_guard {r : Record} (he : s.pms.gate? g = some e) (driven : Driven s) (h : bodyOver s e = false)
    (lost : losesConfirmation pos (gateAt s g) = true) (hr : served s e = some r) (room : g < s.zdu.gates.length) :
    gateReads pos s (g, e) = if remaining s.pms r ≤ (e.guard * 100 : Nat)
      then raiseJam (gateCause e (some (remaining s.pms r)) (some (e.guard * 100 : Nat)) s) (nodeAreas s.pms e.node)
        (setGate g { afterReading pos (gateAt s g) with faulted := true } s)
      else gateTaken pos g s := by
  rw [gateReads_off (by simp [h]), if_pos lost]
  exact guardJudge_moving he hr driven (afterReading_lost lost) room

end Reads

/-! ## The gate test -/

section Test

variable {t : ArmTest} {e : GateEntry} {s : State} (test : s.zdu.armTest = some t) (he : s.pms.gate? t.gate = some e)
  (confirmed : (gateAt s t.gate).status = .confirmed)
include test he confirmed

/-- A gate that has confirmed at 1 is driven to 0. -/
theorem gateTestStep_drives (one : t.pos = true) (reading : readingOf s e = true) (room : t.gate < s.zdu.gates.length) :
    gateTestStep s = setArmTest (some ⟨t.tag, t.gate, false⟩)
      (setGate t.gate { gateAt s t.gate with cmd := some false, status := .moving, timer := 0, expired := false } s) := by
  simp [gateTestStep, test, he, confirmed, confirmedAt, one, reading, commandGate, commanded, gateAt_setGate room]

/-- After a gate that has confirmed at 0 the next gate is tested. -/
theorem gateTestStep_advances (zero : t.pos = false) :
    gateTestStep s = advanceTest t.tag ((definedEntries s.pms.gates).filter fun x => t.gate < x.1) s := by
  simp [gateTestStep, test, he, confirmed, confirmedAt, zero]

end Test

/-! ## The end of the gate test -/

/-- `t` stands where `s` does in all that leaves a command half done, and no gate is under test in it. -/
structure Tested (s t : State) : Prop where
  armTest : t.zdu.armTest = none
  moment : t.rcv.moment = s.rcv.moment
  rpq : t.rpq = s.rpq

theorem holdPositions_tested {s : State} (h : s.zdu.armTest = none) : Tested s (holdPositions s) := by
  unfold holdPositions
  dsimp only
  split <;> exact ⟨h, rfl, rfl⟩

theorem enterClearing_tested {s : State} (h : s.zdu.armTest = none) :
    (enterClearing s).rcv.path = .clearing ∧ Tested s (enterClearing s) := by
  obtain ⟨armTest, moment, rpq⟩ := holdPositions_tested h
  have listed : Aside (setPath .clearing (holdPositions s)) (enterClearing s) := Aside.foldl listArea_aside _ _
  have still := listed.still
  exact ⟨congrArg Rcv.path still.rcv, (congrArg Zdu.armTest still.zdu).trans armTest,
    (congrArg Rcv.moment still.rcv).trans moment, still.rpq.trans rpq⟩

theorem armClears_tested (j : JamRecord) {s : State} (h : s.zdu.armTest = none) :
    (armClears j s).rcv.path = .clearing ∧ Tested s (armClears j s) := by
  have still := (post_aside (.jam false j) (haltZones (setJam j s))).still
  obtain ⟨path, armTest, moment, rpq⟩ := enterClearing_tested (s := post (.jam false j) (haltZones (setJam j s)))
    ((congrArg Zdu.armTest still.zdu).trans h)
  exact ⟨path, armTest, moment.trans (congrArg Rcv.moment still.rcv :), rpq.trans (still.rpq :)⟩

theorem armNode_still {s : State} (h : moving s = false) (p : Nat × NodeEntry) : Still s (armNode s p) :=
  (setBaseline_still h _ _ _).trans (setLevelNow_still _ _)

/-- ARM's last step leads to ARMED or CLEARING (R98). -/
theorem armComplete_decides (tag : Byte) {s : State} (h : moving s = false) :
    ((armComplete tag s).rcv.path = .armed ∨ (armComplete tag s).rcv.path = .clearing) ∧ Tested s (armComplete tag s) := by
  have still : Still s ((sensorNodes s.pms).foldl armNode s) :=
    Still.foldl (fun i => armNode_still (i.moving.trans h) _) (.refl s)
  unfold armComplete
  dsimp only
  generalize (sensorNodes s.pms).foldl armNode s = u at still
  split
  · obtain ⟨path, armTest, moment, rpq⟩ := armClears_tested ‹JamRecord› (s := setArmTest none u) rfl
    exact ⟨.inr path, armTest, moment.trans (congrArg Rcv.moment still.rcv), rpq.trans still.rpq⟩
  · obtain ⟨path, -, zdu, -⟩ := enterArmed_stands (setArmTest none u)
    have entered := enterArmed_entered (setArmTest none u)
    exact ⟨.inl path, congrArg Zdu.armTest zdu, entered.moment.trans (congrArg Rcv.moment still.rcv), entered.rpq.trans still.rpq⟩

/-! ## The statement -/

theorem readingOf_flipped {line : Nat} {pos : Bool} {s : State} {e : GateEntry} (h : s.sfe.feedback[line]? = some (!pos)) :
    (e.fbLine = line → readingOf (feedbackFlipped line pos s) e = pos) ∧
      (e.fbLine ≠ line → readingOf (feedbackFlipped line pos s) e = readingOf s e) := by
  have held : line < s.sfe.feedback.length := (List.getElem?_eq_some_iff.1 h).1
  refine ⟨fun same => ?_, fun other => ?_⟩
  · simp [readingOf, feedbackFlipped, same, held]
  · simp [readingOf, feedbackFlipped, List.getElem?_set_ne (Ne.symm other)]

/-- Settles O37: a reading takes the line's one gate as `afterReading` says, then a jam or the gate test follows. -/
theorem feedbackConfirms : Obligations.FeedbackConfirms := by
  intro line pos s w p f
  refine ⟨gateFeedback_held w, fun h => ⟨fun bare idle => ?_, fun g e one room => ?_⟩⟩
  · have same : (gatesOfLine s.pms line).foldl (gateReads pos) f = f := congrArg (fun l => l.foldl (gateReads pos) f) bare
    rw [gateFeedback_flips w h same, gateTestStep_idle (s := f) idle, finish_settled (s := f) w.2]
  intro q lost q' kept fails
  have mem : (g, e) ∈ (definedEntries s.pms.gates).filter fun x => x.2.fbLine == line := one ▸ List.mem_singleton_self _
  obtain ⟨mem, onLine⟩ := List.mem_filter.1 mem
  have he : s.pms.gate? g = some e := (mem_definedEntries _ _ _).1 mem
  have taken : afterReading pos q = q' := afterReading_eq pos q
  have loses : losesConfirmation pos q = true ↔ lost := losesConfirmation_iff pos q
  have reads {t : State} (r : gateReads pos f (g, e) = t) : exec (.gateFeedback line pos) s = .next (finish (gateTestStep t)) :=
    gateFeedback_flips w h ((congrArg (fun l => l.foldl (gateReads pos) f) one).trans r)
  clear_value q'
  subst taken
  refine ⟨fun idle => ?_, fun t test atGate atPos path cmd moves => ?_⟩
  · have keeps (r : gateReads pos f (g, e) = kept) : exec (.gateFeedback line pos) s = .next kept := by
      rw [reads r, gateTestStep_idle (s := kept) idle, finish_settled (s := kept) w.2]
    have jams {d b : Option Int} (driven : Driven s) (r : gateReads pos f (g, e) =
        raiseJam (gateCause e d b f) (nodeAreas s.pms e.node) (setGate g { afterReading pos q with faulted := true } f)) :
        fails d b := fun queue => (reads r).trans (congrArg Host.Outcome.next (finish_jam driven queue w.2 idle))
    refine ⟨fun quiet => keeps (gateReads_keeps he ?_), fun driven body => jams driven (gateReads_body driven body room),
      fun r driven body gone hr => ?_⟩
    · exact quiet.imp_right fun c => ⟨c.1, c.2.imp_left (mt loses.1)⟩
    · have judged := gateReads_guard (s := f) he driven body (loses.2 gone) hr room
      exact ⟨fun near => jams driven (judged.trans (if_pos near)), fun far => keeps (judged.trans (if_neg (not_le.2 far)))⟩
  · subst atGate atPos
    have stopped : ¬Driven s := by simp [Driven, path]
    have confirms : afterReading t.pos q = { q with status := .confirmed, faulted := false } := by simp [afterReading, cmd, moves]
    have gate : gateAt kept t.gate = { q with status := .confirmed, faulted := false } := (gateAt_setGate room).trans confirms
    have confirmed : (gateAt kept t.gate).status = .confirmed := congrArg GateState.status gate
    have told {u : State} (r : gateTestStep kept = u) (settled : Settled u) : exec (.gateFeedback line t.pos) s = .next u := by
      have same : gateReads t.pos f (t.gate, e) = kept := gateReads_keeps he (.inl stopped)
      exact (reads same).trans (congrArg Host.Outcome.next ((congrArg finish r).trans (finish_settled settled)))
    have bank : t.gate < kept.zdu.gates.length := by rwa [setGate_zdu_gates, List.length_set]
    intro next
    have advances (zero : t.pos = false) : gateTestStep kept = advanceTest t.tag next kept :=
      gateTestStep_advances (s := kept) test he confirmed zero
    refine ⟨fun at1 => told ?_ w.2, fun g2 e2 rest zero hnext room2 => ?_, fun zero hnext => ?_⟩
    · have reading : readingOf kept e = true := ((readingOf_flipped h).1 (eq_of_beq onLine)).trans at1
      rw [gateTestStep_drives (s := kept) test he confirmed at1 reading bank, gate, setGate_setGate]
    · intro q2
      obtain ⟨mem2, after⟩ := List.mem_filter.1 (hnext ▸ List.mem_cons_self : (g2, e2) ∈ next)
      have ne : t.gate ≠ g2 := (of_decide_eq_true after).ne
      have other : e2.fbLine ≠ line := by
        intro same
        have both : (g2, e2) ∈ (definedEntries s.pms.gates).filter fun x => x.2.fbLine == line :=
          List.mem_filter.2 ⟨mem2, beq_iff_eq.2 same⟩
        rw [one, List.mem_singleton] at both
        exact ne (congrArg Prod.fst both).symm
      have reading : readingOf kept e2 = readingOf s e2 := (readingOf_flipped h).2 other
      have state : gateAt kept g2 = q2 := gateAt_setGate_ne ne
      refine told ((advances zero).trans ?_) (by split <;> exact w.2)
      rw [hnext, advanceTest_cons (by rwa [setGate_zdu_gates, List.length_set]), reading, state]
    · obtain ⟨decided, armTest, moment, rpq⟩ := armComplete_decides t.tag (s := kept) (by simp [moving, kept, f, p, path])
      have settled : Settled (armComplete t.tag kept) :=
        ⟨(congrArg Rpq.touched rpq).trans w.2.1, (congrArg Moment.underway moment).trans w.2.2⟩
      exact ⟨_, told ((advances zero).trans (congrArg (fun l => advanceTest t.tag l kept) hnext)) settled, armTest, decided⟩

end Sys2Proof.Machine
end

section
/-! SUPPORT. The invariants of the reset state (R49, R97, R173), and the obligation ResetIsSound. -/

namespace Sys2Proof.Machine

theorem reset_within : Within State.reset where
  map := ⟨rfl, rfl, rfl, rfl, rfl, rfl, rfl⟩
  pins := ⟨rfl, rfl, rfl, rfl⟩
  enables := ⟨by decide, by decide, by decide, by decide⟩
  covers := rfl
  coverCount := rfl
  feedback := rfl
  feedbackRun := rfl
  stationCovers := fun q hq => by rw [List.eq_of_mem_replicate (n := 3) hq]; rfl
  records := Nat.zero_le _
  distinct := List.nodup_nil
  sets := Nat.zero_le _
  entries := Nat.zero_le _
  notices := Nat.zero_le _
  handOffs := fun q hq => by rw [List.eq_of_mem_replicate (n := 3) hq]; exact Nat.zero_le _
  cancels := fun q hq => by rw [List.eq_of_mem_replicate (n := 3) hq]; exact Nat.zero_le _
  nodes := rfl
  zones := rfl
  gates := rfl
  areas := rfl
  stations := rfl
  rows := rfl
  owed := rfl
  ended := rfl

theorem reset_governed : Governed State.reset where
  dispositions := fun _ hr => absurd hr List.not_mem_nil
  empty := fun _ => rfl
  listed := fun _ => rfl
  stopped := fun held => absurd held (by decide)
  tested := fun test => absurd test (by decide)

/-- Settles O57. -/
theorem resetIsSound : Obligations.ResetIsSound := ⟨reset_within, reset_governed⟩

end Sys2Proof.Machine
end

section
/-! SUPPORT. The checks of SHEET_S and SHEET_F (R53 to R57), and the obligation SheetsRefused. -/

namespace Sys2Proof.Machine

/-! ## The checks one by one -/

section Checks

variable {kind tag : Byte} {route : Nat} {fields : Option Announced} {a : Announced} {s : State}

theorem admitting_iff (s : State) : admitting s = true ↔ s.rcv.path = .armed ∨ s.rcv.path = .running := by
  unfold admitting
  cases s.rcv.path <;> simp

theorem routeOpen_iff (s : State) (route : Nat) : routeOpen s route = true ↔
    ∃ rt, s.pms.route? route = some rt ∧ rt.purge = false ∧ routeAvailable s rt.steps = true := by
  simp [routeOpen, Option.any_eq_true]

/-- The first three checks are passed: the path state, the room in the list and the route (R53, R54). -/
structure Admissible (s : State) (route : Nat) : Prop where
  admits : admitting s = true
  room : s.flt.list.length < 24
  route : routeOpen s route = true

theorem performSheet_state (h : ¬admitting s = true) : performSheet kind tag route fields s = refuse kind tag .state s := by
  simp [performSheet, h]

theorem performSheet_full (h : admitting s = true) (full : 24 ≤ s.flt.list.length) :
    performSheet kind tag route fields s = refuse kind tag .full s := by
  simp [performSheet, h, full]

theorem performSheet_route (h : admitting s = true) (room : s.flt.list.length < 24) (shut : ¬routeOpen s route = true) :
    performSheet kind tag route fields s = refuse kind tag .route s := by
  simp [performSheet, h, shut, not_le.2 room]

theorem performSheet_field (h : Admissible s route) : performSheet kind tag route none s = refuse kind tag .field s := by
  simp [performSheet, h.admits, h.route, not_le.2 h.room]

theorem performSheet_order (h : Admissible s route) (late : ¬inOrder s a = true) :
    performSheet kind tag route (some a) s = refuse kind tag .order s := by
  simp [performSheet, h.admits, h.route, not_le.2 h.room, late]

theorem performSheet_sets (h : Admissible s route) (order : inOrder s a = true) (full : setsFull s a = true) :
    performSheet kind tag route (some a) s = refuse kind tag .full s := by
  simp [performSheet, h.admits, h.route, not_le.2 h.room, order, full]

/-- An ordered sheet is out of order beside a record of its stream that is not below it (R57). -/
theorem inOrder_iff (s : State) (a : Announced) : inOrder s a = true ↔ a.unordered = true ∨
    ¬∃ r ∈ s.flt.list, streamOf s.pms r = (a.job, routeDest s.pms a.route) ∧ a.ordinal ≤ r.ordinal := by
  simp only [inOrder, Bool.or_eq_true, List.all_eq_true, bne_iff_ne, decide_eq_true_eq, not_exists, not_and, not_le]
  exact or_congr_right (forall₂_congr fun _ _ => by tauto)

end Checks

/-! ## The fields -/

theorem fieldsS_eq (m : MapStore) (job ordinal media route pageA : Nat) : fieldsS m job ordinal media route pageA =
    (m.media? media).bind fun e => if duplexRoute m route = true → e.duplex = true ∧ pageA ≠ 65535 then
      some ⟨job, ordinal, route, false, some media, e.length, e.tolerance, e.doubleMargin, e.slip, pageA,
        if duplexRoute m route then some (pageA + 1) else none, none⟩ else none := by
  unfold fieldsS
  cases m.media? media with
  | none => rfl
  | some e =>
    have suits : (duplexRoute m route = true ∧ (e.duplex = false ∨ pageA = 65535)) ↔
        ¬(duplexRoute m route = true → e.duplex = true ∧ pageA ≠ 65535) := by
      rw [← Bool.not_eq_true]
      tauto
    simp only [suits, ite_not, Option.bind_some]

/-- What a SHEET_F request announces (R56). -/
def announcedF (job ordinal route media length pageA : Nat) (pageB setNo : Option Nat) (setPos flags : Nat) (e : MediaEntry) :
    Announced :=
  ⟨job, ordinal, route, flags.testBit 2, if media = 255 then none else some media, if media = 255 then length else e.length,
    e.tolerance, e.doubleMargin, e.slip, pageA, pageB, setNo.map fun n => (n, setPos, flags.testBit 0, flags.testBit 1)⟩

/-- Bit `i` of a flags byte as its field is read. -/
theorem flagBit (flags i : Nat) : (flags / 2 ^ i % 2 == 1) = flags.testBit i := by
  rw [Nat.testBit_eq_decide_div_mod_eq]
  rfl

theorem setFieldOk_iff (s : State) (job route : Nat) (setNo : Option Nat) (last staple unordered : Bool) :
    setFieldOk s job route setNo last staple unordered = true ↔
      (setNo = none → last = false ∧ staple = false) ∧ ∀ k, setNo = some k → unordered = false ∧
        (stationOfNode s.pms (routeDest s.pms route)).isSome = true ∧
        ∀ x, findSet s job k = some x → x.dest = routeDest s.pms route ∧ x.closed = false ∧ x.staple = staple := by
  unfold setFieldOk
  cases setNo with
  | none => simp
  | some n => simp [Option.all_eq_true, and_assoc, and_left_comm]

theorem agreesUnordered_iff (s : State) (job route : Nat) (unordered : Bool) : agreesUnordered s job route unordered = true ↔
    ∀ r ∈ s.flt.list, streamOf s.pms r = (job, routeDest s.pms route) → r.unordered = unordered := by
  simp only [agreesUnordered, List.all_eq_true, Bool.or_eq_true, bne_iff_ne, beq_iff_eq]
  exact forall₂_congr fun _ _ => by tauto

/-- The media entry of a SHEET_F request and the length that it declares (R56). -/
theorem declared_eq_some (m : MapStore) (media length : Nat) (x : Option Nat × MediaEntry × Nat) :
    ((mediaOf m media).bind fun p => (declaredOf p.1 p.2 length).map fun len => (p.1, p.2, len)) = some x ↔
      ∃ e, m.media? (if media = 255 then 0 else media) = some e ∧
        (if media = 255 then 500 ≤ length ∧ length ≤ 20000 else length = 0) ∧
        (if media = 255 then none else some media, e, if media = 255 then length else e.length) = x := by
  by_cases explicit : media = 255
  all_goals
    simp only [mediaOf, explicit, if_true, if_false, Option.bind_map, Function.comp_apply, Option.bind_eq_some_iff, declaredOf]
    refine exists_congr fun e => and_congr_right fun _ => ?_
    split <;> simp [*]

/-- The other checks of R56, in the order of the model's and of the rule's. -/
theorem fieldChecks_iff {s : State} {job route media length flags : Nat} {pageB setNo : Option Nat} {e : MediaEntry}
    (entry : s.pms.media? (if media = 255 then 0 else media) = some e)
    (declared : if media = 255 then 500 ≤ length ∧ length ≤ 20000 else length = 0) :
    ((!duplexRoute s.pms route || e.duplex) && pageB.isSome == duplexRoute s.pms route && decide (flags < 8) &&
      setFieldOk s job route setNo (flags.testBit 0) (flags.testBit 1) (flags.testBit 2) &&
      agreesUnordered s job route (flags.testBit 2)) = true ↔ FieldsAgree s job route media length flags pageB setNo e := by
  simp only [Bool.and_eq_true, setFieldOk_iff, agreesUnordered_iff, beq_iff_eq, decide_eq_true_eq]
  have duplex : (!duplexRoute s.pms route || e.duplex) = true ↔ (duplexRoute s.pms route = true → e.duplex = true) := by
    cases duplexRoute s.pms route <;> simp
  rw [duplex]
  constructor
  · rintro ⟨⟨⟨⟨duplex, back⟩, known⟩, alone, member⟩, stream⟩
    exact ⟨entry, declared, duplex, back, known, alone, member, stream⟩
  · rintro ⟨-, -, duplex, back, known, alone, member, stream⟩
    exact ⟨⟨⟨⟨duplex, back⟩, known⟩, alone, member⟩, stream⟩

theorem fieldsF_eq_some (s : State) (job ordinal route media length pageA : Nat) (pageB setNo : Option Nat) (setPos flags : Nat)
    (a : Announced) : fieldsF s job ordinal route media length pageA pageB setNo setPos flags = some a ↔
      ∃ e, FieldsAgree s job route media length flags pageB setNo e ∧
        announcedF job ordinal route media length pageA pageB setNo setPos flags e = a := by
  have bits : (flags % 2 == 1) = flags.testBit 0 ∧ (flags / 2 % 2 == 1) = flags.testBit 1 ∧
      (flags / 4 % 2 == 1) = flags.testBit 2 := by
    simpa using And.intro (flagBit flags 0) ⟨flagBit flags 1, flagBit flags 2⟩
  obtain ⟨last, staple, unordered⟩ := bits
  have checked : fieldsF s job ordinal route media length pageA pageB setNo setPos flags =
      ((mediaOf s.pms media).bind fun p => (declaredOf p.1 p.2 length).map fun len => (p.1, p.2, len)).bind fun x =>
        if (!duplexRoute s.pms route || x.2.1.duplex) && pageB.isSome == duplexRoute s.pms route && decide (flags < 8) &&
            setFieldOk s job route setNo (flags.testBit 0) (flags.testBit 1) (flags.testBit 2) &&
            agreesUnordered s job route (flags.testBit 2) then
          some ⟨job, ordinal, route, flags.testBit 2, x.1, x.2.2, x.2.1.tolerance, x.2.1.doubleMargin, x.2.1.slip, pageA, pageB,
            setNo.map fun n => (n, setPos, flags.testBit 0, flags.testBit 1)⟩ else none := by
    unfold fieldsF
    rw [last, staple, unordered]
    rcases mediaOf s.pms media with - | ⟨code, e⟩
    · rfl
    · simp only [Option.bind_some]
      rcases declaredOf code e length with - | len <;> rfl
  rw [checked, Option.bind_eq_some_iff]
  constructor
  · rintro ⟨x, found, h⟩
    obtain ⟨e, entry, declared, rfl⟩ := (declared_eq_some _ _ _ _).1 found
    obtain ⟨checks, same⟩ := Option.ite_none_right_eq_some.1 h
    exact ⟨e, (fieldChecks_iff entry declared).1 checks, Option.some.inj same⟩
  · rintro ⟨e, agree, rfl⟩
    refine ⟨_, (declared_eq_some _ _ _ _).2 ⟨e, agree.entry, agree.declared, rfl⟩, ?_⟩
    rw [if_pos ((fieldChecks_iff agree.entry agree.declared).2 agree)]
    rfl

/-! ## The statement -/

/-- Settles O24: each check is one lemma about `performSheet`, and the fields are `fieldsS_eq` and `fieldsF_eq_some`. -/
theorem sheetsRefused : Obligations.SheetsRefused := by
  intro tag job ordinal media route pageA length setPos flags pageB setNo s ready short full refused armed open_ late both
  have answers {kind : Byte} {why : Status} {f : State → State} (e : f (heard s) = refuse kind tag why (heard s)) :
      takeRequest kind tag f s = replied (replyKind kind) tag why false [] (heard s) :=
    takeRequest_replied ready e ready.settled_heard
  have refusedS {why : Status} (e : performSheet kSHEET_S tag route (fieldsS s.pms job ordinal media route pageA) (heard s) =
      refuse kSHEET_S tag why (heard s)) : refused 0x4A short why := congrArg Host.Outcome.next (answers e)
  have refusedF {why : Status} (e : performSheet kSHEET_F tag route
      (fieldsF (heard s) job ordinal route media length pageA pageB setNo setPos flags) (heard s) =
      refuse kSHEET_F tag why (heard s)) : refused 0x4B full why := congrArg Host.Outcome.next (answers e)
  have admits : admitting (heard s) = true ↔ armed := admitting_iff (heard s)
  have opens : routeOpen (heard s) route = true ↔ open_ := routeOpen_iff (heard s) route
  have admissible (h : armed) (room : s.flt.list.length < 24) (o : open_) : Admissible (heard s) route :=
    ⟨admits.2 h, room, opens.2 o⟩
  refine ⟨fun h => ?_, fun h few => ?_, fun h room shut => ?_, fun h room o => ⟨fun unknown => ?_, fun e entry => ?_,
    fun disagree => ?_, fun e agree => ?_⟩⟩
  · exact ⟨refusedS (performSheet_state (mt admits.1 h)), refusedF (performSheet_state (mt admits.1 h))⟩
  · exact ⟨refusedS (performSheet_full (admits.2 h) few), refusedF (performSheet_full (admits.2 h) few)⟩
  · exact ⟨refusedS (performSheet_route (admits.2 h) room (mt opens.1 shut)),
      refusedF (performSheet_route (admits.2 h) room (mt opens.1 shut))⟩
  · refine refusedS ?_
    rw [fieldsS_eq, unknown]
    exact performSheet_field (admissible h room o)
  · intro suits
    refine ⟨fun clash => refusedS ?_, fun suit behind => refusedS ?_⟩
    · rw [fieldsS_eq, entry, Option.bind_some, if_neg clash]
      exact performSheet_field (admissible h room o)
    · rw [fieldsS_eq, entry, Option.bind_some, if_pos suit]
      refine performSheet_order (admissible h room o) (mt (inOrder_iff _ _).1 ?_)
      rintro (h | h)
      · exact absurd h Bool.false_ne_true
      · exact h behind
  · have none : fieldsF (heard s) job ordinal route media length pageA pageB setNo setPos flags = none := by
      refine Option.eq_none_iff_forall_not_mem.2 fun a ha => ?_
      obtain ⟨e, agree, -⟩ := (fieldsF_eq_some ..).1 ha
      exact disagree e { agree with }
    refine refusedF ?_
    rw [none]
    exact performSheet_field (admissible h room o)
  · have fields : fieldsF (heard s) job ordinal route media length pageA pageB setNo setPos flags = some _ :=
      (fieldsF_eq_some ..).2 ⟨e, { agree with }, rfl⟩
    rw [fields] at refusedF
    refine ⟨fun ordered behind => refusedF ?_, fun k apart number fresh eight => refusedF ?_⟩
    · refine performSheet_order (admissible h room o) (mt (inOrder_iff _ _).1 ?_)
      rintro (h | h)
      · exact absurd (h.symm.trans ordered) (by decide)
      · exact h behind
    · refine performSheet_sets (admissible h room o) ((inOrder_iff _ _).2 apart) ?_
      have none : findSet (heard s) job k = none := fresh
      have eight : 8 ≤ (heard s).xlm.sets.length := eight
      simp [setsFull, announcedF, number, none, eight]

end Sys2Proof.Machine
end

section
/-! SUPPORT. How records move on a path without gates, one lemma for each operation of the flight list: the lead's step, the trail's
window and crossing, and the records that no crossing takes on (R59 to R64, R69, R73 to R82). -/

namespace Sys2Proof.Machine

/-! ## Paths without gates -/

section Ungated

variable {s : State} (ungated : definedEntries s.pms.gates = [])
include ungated

theorem rederiveAt_ungated (arrived : Option Nat) (n : Nat) : rederiveAt arrived n s = s := by
  simp [rederiveAt, ungated]

theorem rederiveFor_ungated (r : Record) : rederiveFor r s = s := by
  simp [rederiveFor, ungated]

theorem guardMark_ungated (r : Record) : guardMark r s = s := by
  unfold guardMark guardAt
  split
  · simp [ungated]
  · rfl

theorem guardEdges_ungated (z : Nat) : guardEdges z s = s := by
  simp [guardEdges, gateIndices, ungated]

end Ungated

/-! ## What decides which nodes are working sensors -/

/-- `t` has the map of `s` and the health of each of its nodes. -/
structure Alike (s t : State) : Prop where
  pms : t.pms = s.pms
  health : ∀ n, (nodeAt t n).health = (nodeAt s n).health

namespace Alike

variable {s t : State}

theorem of_sfe (pms : t.pms = s.pms) (sfe : t.sfe = s.sfe) : Alike s t := ⟨pms, fun n => by rw [nodeAt_congr sfe n]⟩

theorem working (h : Alike s t) (n : Nat) : working t n = working s n := by
  simp only [Machine.working, h.pms, h.health]

theorem markLike (h : Alike s t) (n : Nat) : markLike t n = markLike s n := by
  simp only [Machine.markLike, h.pms, h.health]

theorem heldEntry (h : Alike s t) (r : Record) : heldEntry t r = heldEntry s r := by
  simp only [Machine.heldEntry, h.pms, h.working]

end Alike

theorem edged_alike (line y n : Nat) (lead : Bool) (s : State) : Alike s (edged line y n lead s) := by
  refine ⟨rfl, fun k => ?_⟩
  by_cases same : n = k
  · subst same
    by_cases room : n < s.sfe.nodes.length
    · rw [edged, nodeAt_setNode (by exact room)]
    · simp [nodeAt, edged, room]
  · rw [edged, nodeAt_setNode_ne same]
    rfl

theorem raiseJam_pms (c : JamCause) (as : List Nat) (s : State) : (raiseJam c as s).pms = s.pms := (raiseJam_ordinary c as s).pms

theorem raiseJam_alike (c : JamCause) (as : List Nat) (s : State) : Alike s (raiseJam c as s) :=
  .of_sfe (raiseJam_pms c as s) (raiseJam_sfe s c as)

theorem markLike_working {s : State} {n : Nat} (h : working s n = true) : markLike s n = false := by
  simp only [working, Bool.and_eq_true, decide_eq_true_eq, bne_iff_ne] at h
  simp [markLike, h.1, h.2]

theorem working_markLike {s : State} {n : Nat} (h : markLike s n = true) : working s n = false := by
  by_contra c
  rw [Bool.not_eq_false] at c
  exact absurd h (by simp [markLike_working c])

theorem nodeKind_working {s : State} {n : Nat} (h : working s n = true) : nodeKind s.pms n = some .sensor := by
  simp only [working, Bool.and_eq_true, decide_eq_true_eq] at h
  exact h.1

/-- A REMOTE or DEST node is no sensor and no mark. -/
theorem unseen_end {s : State} {n : Nat} (h : nodeKind s.pms n = some .remote ∨ nodeKind s.pms n = some .dest) :
    working s n = false ∧ markLike s n = false := by
  rcases h with h | h <;> simp [working, markLike, h]

/-! ## Records in the list -/

@[simp] theorem post_flt (n : Notice) (s : State) : (post n s).flt = s.flt := by
  unfold post
  split <;> rfl

/-- A record with another disposition. -/
def disposed (d : Option Disp) (r : Record) : Record := { r with disp := d }

/-- A jam changes no more of a record than its disposition (R117). -/
theorem raiseJam_list (c : JamCause) (as : List Nat) (s : State) :
    ∃ f : Record → Option Disp, (raiseJam c as s).flt.list = s.flt.list.map fun r => disposed (f r) r := by
  unfold raiseJam
  split
  case h_3 => exact ⟨fun _ => none, by simp [secondFailure, haltZones, disposed]⟩
  case h_4 => split <;> exact ⟨(·.disp), by simp [joinAreas, disposed]⟩
  all_goals exact ⟨(·.disp), by simp [firstCause, haltZones, disposed]⟩

theorem findRec_disposed {s t : State} {f : Record → Option Disp} (list : t.flt.list = s.flt.list.map fun r => disposed (f r) r)
    {n : Nat} {r : Record} (h : findRec s n = some r) : findRec t n = some (disposed (f r) r) := by
  unfold findRec at h ⊢
  rw [list, List.find?_map]
  exact congrArg (Option.map _) h

theorem findRec_raiseJam {c : JamCause} {as : List Nat} {s : State} {n : Nat} {r : Record} (h : findRec s n = some r) :
    ∃ d, findRec (raiseJam c as s) n = some (disposed d r) := by
  obtain ⟨f, list⟩ := raiseJam_list c as s
  exact ⟨f r, findRec_disposed list h⟩

/-! ## A record that no crossing takes on -/

/-- At its place the lead crosses no mark, and the trail crosses no node and no destination (R63, R64). -/
structure Rests (s : State) (r : Record) : Prop where
  lead : markExcess s r = none
  trail : trailMark s r = false
  stays : r.progress = .moving → r.trailStep = r.lead.step → ∀ g, leadSeg s.pms r = some g →
    nodeKind s.pms g.dst = some .dest → (stationOfNode s.pms g.dst).isSome = true

section Rest

variable {s t : State} {r : Record}

theorem markExcess_none {g : SegEntry} (h : leadSeg s.pms r = some g) (k : g.kind = .reverse ∨ markLike s g.dst = false) :
    markExcess s r = none := by
  unfold markExcess
  rw [h]
  refine if_neg ?_
  rintro ⟨-, forward, -, mark, -⟩
  rcases k with k | k
  · exact forward k
  · exact absurd mark (by simp [k])

theorem trailMark_held (h : (heldEntry s r).isSome = true) : trailMark s r = false := by
  have : (heldEntry s r).isNone = false := by simpa using h
  simp [trailMark, this]

theorem heldEntry_behind (h : (heldEntry s r).isSome = true) : r.trailStep < r.lead.step := by
  by_contra c
  simp [heldEntry, c] at h

/-- The trail waits at a working sensor, and the lead's step ends at no mark. -/
theorem rests_held {g : SegEntry} (h : leadSeg s.pms r = some g) (k : g.kind = .reverse ∨ markLike s g.dst = false)
    (held : (heldEntry s r).isSome = true) : Rests s r where
  lead := markExcess_none h k
  trail := trailMark_held held
  stays := fun _ same => absurd same (heldEntry_behind held).ne

/-- Lead and trail stand on one step, which ends at no mark and at no local destination. -/
theorem rests_step {g : SegEntry} (h : leadSeg s.pms r = some g) (k : markLike s g.dst = false) (same : r.trailStep = r.lead.step)
    (away : nodeKind s.pms g.dst ≠ some .dest ∨ (stationOfNode s.pms g.dst).isSome = true) : Rests s r where
  lead := markExcess_none h (.inr k)
  trail := by simp [trailMark, same]
  stays := fun _ _ g' h' dest => by
    obtain rfl : g = g' := Option.some.inj (h.symm.trans h')
    exact away.resolve_left fun c => c dest

theorem rests_reversing (h : r.progress = .reversing) : Rests s r where
  lead := by
    unfold markExcess
    split
    · exact if_neg (by simp [h])
    · rfl
  trail := by simp [trailMark, h]
  stays := fun m => absurd (h.symm.trans m) (by decide)

theorem Alike.rests (a : Alike s t) (h : Rests s r) : Rests t r where
  lead := by simpa only [markExcess, a.pms, a.markLike] using h.lead
  trail := by simpa only [trailMark, a.pms, a.heldEntry] using h.trail
  stays := by simpa only [a.pms] using h.stays

theorem Rests.disp (h : Rests s r) (d : Option Disp) : Rests s (disposed d r) := ⟨h.lead, h.trail, h.stays⟩

theorem Rests.atDestination (h : Rests s r) : atDestination s r = false := by
  by_contra c
  rw [Bool.not_eq_false] at c
  unfold Machine.atDestination at c
  split at c
  · rename_i g hg
    simp only [Bool.and_eq_true, beq_iff_eq, decide_eq_true_eq, Option.isNone_iff_eq_none] at c
    obtain ⟨⟨⟨⟨⟨⟨progress, -⟩, same⟩, -⟩, kind⟩, station⟩, -⟩ := c
    exact absurd (h.stays progress same g hg kind) (by simp [station])
  · cases c

theorem crossMarks_rests {n k : Nat} (f : findRec s n = some r) (h : markExcess s r = none) : crossMarks n k s = s := by
  cases k with
  | zero => rfl
  | succ k => simp [crossMarks, f, h]

theorem crossTrails_rests {n k : Nat} (f : findRec s n = some r) (h : Rests s r) : crossTrails n k s = s := by
  cases k with
  | zero => rfl
  | succ k => simp [crossTrails, f, h.trail, h.atDestination]

theorem settle_rests {n : Nat} (f : findRec s n = some r) (h : Rests s r) : settle n s = s := by
  rw [settle, crossMarks_rests f h.lead, crossTrails_rests f h, ite_self]

/-- A record that rests where it has been put. -/
theorem settle_putRec {n : Nat} {q : Record} (h : Rests s q) (f : findRec s n = some r) (same : q.sheet = n) :
    settle n (putRec q s) = putRec q s :=
  settle_rests (findRec_putRec f same) ⟨h.lead, h.trail, h.stays⟩

theorem settle_raiseJam {n : Nat} {c : JamCause} {as : List Nat} (f : findRec s n = some r) (h : Rests s r) :
    settle n (raiseJam c as s) = raiseJam c as s := by
  obtain ⟨d, found⟩ := findRec_raiseJam (c := c) (as := as) f
  exact settle_rests found (((raiseJam_alike c as s).rests h).disp d)

end Rest

/-! ## The trail's window -/

section Trail

variable {s : State} {r : Record} {n : Nat}

/-- A record with another stay window. -/
def trailed (w : Option TrailExp) (r : Record) : Record := { r with trailExp := w }

theorem trailed_sheet (w : Option TrailExp) (r : Record) : (trailed w r).sheet = r.sheet := rfl

theorem openStay_eq (f : findRec s n = some r) : openStay n s =
    judgeStay (trailed (openTrail s r) r) (putRec (trailed (openTrail s r) r) s) := by
  have updated : updRec n (fun r => trailed (openTrail s r) r) s = putRec (trailed (openTrail s r) r) s := by
    simp [updRec, f]
  have found : findRec (putRec (trailed (openTrail s r) r) s) n = some (trailed (openTrail s r) r) :=
    findRec_putRec f ((trailed_sheet _ r).trans (findRec_sheet f))
  unfold openStay
  rw [show updRec n (fun r => { r with trailExp := openTrail s r }) s = _ from updated, withRec, found]

theorem judgeStay_closed (h : r.trailExp = none) : judgeStay r s = s := by
  simp [judgeStay, h]

theorem judgeStay_keeps (h : ∀ e, r.trailExp = some e → judged s r = true → trailRun s e ≤ e.hi) : judgeStay r s = s := by
  unfold judgeStay
  split
  · rename_i e he
    exact if_neg fun c => absurd (h e he c.1) (not_le.2 c.2)
  · rfl

theorem heldEntry_eq_some {a : Arrival} : heldEntry s r = some a ↔ r.trailStep < r.lead.step ∧
    ∃ n, trailNext s.pms r = some n ∧ working s n = true ∧ r.arrivals.find? (fun a => a.node == n) = some a := by
  simp [heldEntry, Option.bind_eq_some_iff]

/-- No stay window opens at a node that is no working sensor. -/
theorem heldEntry_unseen {g : SegEntry} (h : stepSeg s.pms r (r.trailStep + 1) = some g) (blind : working s g.src = false) :
    heldEntry s r = none := by
  simp [heldEntry, trailNext, h, blind]

theorem openTrail_held {a : Arrival} {h : SegEntry} (held : heldEntry s r = some a) (seg : s.pms.seg? a.seg = some h) :
    openTrail s r = some (stayOn s r a h) := by
  simp [openTrail, held, stayWindow, seg, stayOn, boundHi, slipTerm]

end Trail

/-! ## The lead takes a step -/

section Step

variable {s : State} {r r₀ : Record} {g : SegEntry} {x : Nat} {arr : List Arrival}

/-- A record past its hand-off, or on a path that needs no station, hands off nothing (R69). -/
theorem handOffStep_none {n : Nat} (f : findRec s n = some r) (h : NoHandOff s r) : handOffStep n s = s := by
  unfold handOffStep
  rw [f]
  refine if_neg ?_
  rintro ⟨unmade, -, first⟩
  rcases h with h | h
  · simp [unmade] at h
  · have none : stationsNeeded s.pms ((pathOf s.pms r).take r.lead.step) r.lead.step = [] := by
      refine List.eq_nil_iff_forall_not_mem.2 fun k hk => ?_
      obtain ⟨i, mem, hi⟩ := List.mem_filterMap.1 hk
      have needed : k ∈ stationsNeeded s.pms (pathOf s.pms r) 1 :=
        List.mem_filterMap.2 ⟨i, List.mem_of_mem_take (List.mem_of_mem_drop mem), hi⟩
      simp [h] at needed
    simp [firstStationStep, none] at first

/-- A record after its lead has taken a step: `steppedOn` with the window that the step opens. -/
def onward (s : State) (x : Nat) (arr : List Arrival) (r : Record) : Record :=
  { steppedOn s x arr r with leadExp := openLead s (steppedOn s x arr r) }

theorem steppedOn_eq (next : stepSeg s.pms r (r.lead.step + 1) = some g) : steppedOn s x arr r = { r with
    progress := .moving
    lead := ⟨r.lead.step + 1, travelOf s g.zone - BitVec.ofNat 32 x, x⟩
    leadExp := none
    arrivals := r.arrivals ++ arr } := by
  simp [steppedOn, next]

theorem leadSeg_steppedOn (s : State) (x : Nat) (arr : List Arrival) (r : Record) :
    leadSeg s.pms (steppedOn s x arr r) = stepSeg s.pms r (r.lead.step + 1) := rfl

theorem leadWindow_travel (s : State) (r : Record) (g : SegEntry) (ref : r.lead.ref = travelOf s g.zone - BitVec.ofNat 32 x)
    (offset : r.lead.offset = x) : leadWindow s r g .travel = windowOn s r g x := by
  simp [leadWindow, windowOn, ref, offset, boundLo, boundHi, slipTerm]

theorem leadWindow_remote (s : State) (r : Record) (g : SegEntry) (ref : r.lead.ref = travelOf s g.zone) :
    leadWindow s r g .remote = remoteOn s (windowOn s r g 0) := by
  have times (lo hi margin : Nat) (v : Nat) : formTimes
      { kind := .remote, node := g.dst, zone := g.zone, ref := r.lead.ref, lo := lo, hi := hi, margin := margin, budget := none,
        elapsed := 0, times := none } 0 v =
      if v = 0 then none else some (min (lo / v) 65535, min (ceilDiv hi v + margin) 65535) := by
    simp [formTimes, sat16]
  simp only [leadWindow, times]
  simp [remoteOn, windowOn, ref, boundLo, boundHi, slipTerm]

/-- Onto a step that ends at a working sensor the lead opens its travel window (R62, R74). -/
theorem onward_sensor (next : stepSeg s.pms r (r.lead.step + 1) = some g) (forward : g.kind ≠ .reverse)
    (seen : working s g.dst = true) : onward s x arr r = { r with
      progress := .moving
      lead := ⟨r.lead.step + 1, travelOf s g.zone - BitVec.ofNat 32 x, x⟩
      leadExp := some (windowOn s r g x)
      arrivals := r.arrivals ++ arr } := by
  have opens : openLead s (steppedOn s x arr r) = some (windowOn s r g x) := by
    rw [openLead, leadSeg_steppedOn, next]
    dsimp only
    rw [if_neg forward, if_pos seen, steppedOn_eq next]
    exact congrArg some (leadWindow_travel s _ g rfl rfl)
  rw [onward, opens, steppedOn_eq next]

/-- Onto a step that ends elsewhere it opens a remote window at a REMOTE node, and none at another (R62, R88). -/
theorem onward_unseen (next : stepSeg s.pms r (r.lead.step + 1) = some g) (forward : g.kind ≠ .reverse)
    (unseen : working s g.dst = false) : onward s 0 arr r = { r with
      progress := .moving
      lead := ⟨r.lead.step + 1, travelOf s g.zone, 0⟩
      leadExp := if nodeKind s.pms g.dst = some .remote then some (remoteOn s (windowOn s r g 0)) else none
      arrivals := r.arrivals ++ arr } := by
  have opens : openLead s (steppedOn s 0 arr r) =
      if nodeKind s.pms g.dst = some .remote then some (remoteOn s (windowOn s r g 0)) else none := by
    rw [openLead, leadSeg_steppedOn, next]
    dsimp only
    rw [if_neg forward, unseen, steppedOn_eq next, leadWindow_remote s _ g (by simp)]
    rfl
  rw [onward, opens, steppedOn_eq next]
  simp

/-- `onward_sensor` for a lead that arrives at the node itself. -/
theorem onward_arrived (next : stepSeg s.pms r (r.lead.step + 1) = some g) (forward : g.kind ≠ .reverse)
    (seen : working s g.dst = true) : onward s 0 arr r = { r with
      progress := .moving
      lead := ⟨r.lead.step + 1, travelOf s g.zone, 0⟩
      leadExp := some (windowOn s r g 0)
      arrivals := r.arrivals ++ arr } := by
  rw [onward_sensor next forward seen]
  simp

theorem leadSeg_onward (s : State) (x : Nat) (arr : List Arrival) (r : Record) :
    leadSeg s.pms (onward s x arr r) = stepSeg s.pms r (r.lead.step + 1) := rfl

/-- A trail that waits at a working sensor goes on waiting there. -/
theorem heldEntry_onward (held : (heldEntry s r).isSome = true) : (heldEntry s (onward s x arr r)).isSome = true := by
  obtain ⟨a, ha⟩ := Option.isSome_iff_exists.1 held
  obtain ⟨behind, n, node, seen, entry⟩ := heldEntry_eq_some.1 ha
  have entry' : (r.arrivals ++ arr).find? (fun a => a.node == n) = some a := by simp [List.find?_append, entry]
  exact Option.isSome_iff_exists.2 ⟨a, heldEntry_eq_some.2 ⟨Nat.lt_succ_of_lt behind, n, node, seen, entry'⟩⟩

theorem findRec_onward (f : findRec s r.sheet = some r₀) : findRec (putRec (onward s x arr r) s) r.sheet = some (onward s x arr r) :=
  findRec_putRec f rfl

theorem takeStep_ungated (ungated : definedEntries s.pms.gates = []) : takeStep x arr r s = handOffStep r.sheet
    (if r.trailStep = r.lead.step then openStay r.sheet (putRec (onward s x arr r) s) else putRec (onward s x arr r) s) := by
  have same : definedEntries (if r.trailStep = r.lead.step then openStay r.sheet (putRec (onward s x arr r) s)
      else putRec (onward s x arr r) s).pms.gates = [] := by
    split
    · rwa [(openStay_ordinary _ _).pms]
    · exact ungated
  unfold takeStep
  dsimp only
  rw [← onward]
  split
  · rw [rederiveAt_ungated same]
  · rfl

/-- A step of a lead whose trail stands on an earlier step, with no hand-off to make (R62, R63). -/
theorem takeStep_behind (ungated : definedEntries s.pms.gates = []) (f : findRec s r.sheet = some r₀) (sent : NoHandOff s r)
    (behind : r.trailStep ≠ r.lead.step) : takeStep x arr r s = putRec (onward s x arr r) s := by
  rw [takeStep_ungated ungated, if_neg behind]
  exact handOffStep_none (findRec_onward f) sent

/-- A step of a lead that leaves its trail behind opens the stay window, here one that is not past its bound (R64, R81). -/
theorem takeStep_leaves (ungated : definedEntries s.pms.gates = []) (f : findRec s r.sheet = some r₀) (sent : NoHandOff s r)
    (same : r.trailStep = r.lead.step) {w : Option TrailExp} (opens : openTrail s (onward s x arr r) = w)
    (fresh : ∀ e, w = some e → trailRun s e ≤ e.hi) :
    takeStep x arr r s = putRec (trailed w (onward s x arr r)) s := by
  have found := findRec_onward (x := x) (arr := arr) f
  have window : openTrail (putRec (onward s x arr r) s) (onward s x arr r) = w := opens
  have stay : openStay r.sheet (putRec (onward s x arr r) s) = putRec (trailed w (onward s x arr r)) s := by
    rw [openStay_eq found, window, putRec_putRec s (trailed_sheet w _)]
    exact judgeStay_keeps fun e he _ => fresh e he
  rw [takeStep_ungated ungated, if_pos same, stay]
  exact handOffStep_none (findRec_putRec f rfl) sent

end Step

/-! ## The trail crosses its next node -/

section Cross

variable {s : State} {r r₀ : Record} {g : SegEntry} {under : List Arrival}

theorem crossTrail_ungated (ungated : definedEntries s.pms.gates = []) :
    crossTrail r s = openStay r.sheet (putRec (trailOn s r) s) := by
  have same : definedEntries (openStay r.sheet (putRec (trailOn s r) s)).pms.gates = [] := by
    rwa [(openStay_ordinary _ _).pms]
  unfold crossTrail
  dsimp only
  split
  · rw [rederiveAt_ungated same]
  · rfl

/-- A side as step `i` of record `r`, which ends at the route's `nth` TRANSFER crossing or at none, leaves it (R65). -/
def sideAfter (m : MapStore) (r : Record) (i nth : Nat) (v : Imaging) (o : Option Imaging) : Option Imaging :=
  if ((stepSeg m r i).bind fun g => nodeKind m g.dst) = some .transfer ∧ r.purgeJoin = none ∧
    transferCount m ((pathOf m r).take i) = nth then o.map fun _ => v else o

theorem setSide_eq (m : MapStore) (i : Nat) (v : Imaging) (r : Record) : setSide m i v r = { r with
    sideA := sideAfter m r i 1 v r.sideA
    sideB := sideAfter m r i 2 v r.sideB } := by
  unfold setSide sideAfter
  dsimp only
  by_cases crosses : ((stepSeg m r i).bind fun g => nodeKind m g.dst) = some .transfer ∧ r.purgeJoin = none
  · obtain ⟨transfer, own⟩ := crosses
    rw [if_pos ⟨by simp [transfer], own⟩]
    split
    · rename_i one
      rw [if_pos ⟨transfer, own, one⟩, if_neg fun c => absurd (one.symm.trans c.2.2) (by decide)]
    · rename_i two
      rw [if_neg fun c => absurd (two.symm.trans c.2.2) (by decide), if_pos ⟨transfer, own, two⟩]
    · rename_i one two
      rw [if_neg fun c => one c.2.2, if_neg fun c => two c.2.2]
  · rw [if_neg (by simpa using crosses), if_neg fun c => crosses ⟨c.1, c.2.1⟩, if_neg fun c => crosses ⟨c.1, c.2.1⟩]

/-- The sides of a record whose trail crosses its next node; none changes as it leaves a pocket (R65). -/
def trailSides (m : MapStore) (r : Record) : Record :=
  if (stepSeg m r r.trailStep).any fun g => g.kind == .reverse then r else setSide m r.trailStep .done r

theorem trailSides_plain {m : MapStore} {h : SegEntry} (crossed : stepSeg m r r.trailStep = some h)
    (plain : nodeKind m h.dst ≠ some .transfer) : trailSides m r = r := by
  simp [trailSides, setSide_eq, sideAfter, crossed, plain]

/-- The arrivals under the body without the first, where it is at node `n`. -/
def Uncovers (r : Record) (n : Nat) (under : List Arrival) : Prop :=
  (r.arrivals = [] ∧ under = []) ∨ ∃ a, r.arrivals = a :: under ∧ a.node = n

/-- The trail on its next step: REVERSING where that is the lead's REVERSE step (R64, R66). -/
theorem trailOn_eq (next : stepSeg s.pms r (r.trailStep + 1) = some g) (left : Uncovers r g.src under) :
    trailOn s r = (if g.kind = .reverse ∧ r.trailStep + 1 = r.lead.step then { trailSides s.pms r with
        trailExp := none, trailStep := r.trailStep + 1, arrivals := under
        progress := .reversing, depth := some ⟨0, travelOf s g.zone, false⟩ }
      else { trailSides s.pms r with trailExp := none, trailStep := r.trailStep + 1, arrivals := under }) := by
  have sides : ∃ x y, trailSides s.pms r = { r with sideA := x, sideB := y } := by
    unfold trailSides
    split
    · exact ⟨r.sideA, r.sideB, rfl⟩
    · exact ⟨_, _, setSide_eq ..⟩
  obtain ⟨x, y, sides⟩ := sides
  unfold trailOn
  dsimp only
  rw [← trailSides, sides]
  dsimp only
  split
  · rename_i g' h
    obtain rfl : g = g' := Option.some.inj (next.symm.trans h)
    rcases left with ⟨bare, rfl⟩ | ⟨a, first, node⟩
    · rw [bare]
    · simp [first, trailNext, next, node]
  · rename_i h
    exact absurd (next.symm.trans h) (by simp)

/-- The trail crosses onto a step at whose start no stay window opens. -/
theorem crossTrail_shut (ungated : definedEntries s.pms.gates = []) (f : findRec s r.sheet = some r₀) {q : Record}
    (crossed : trailOn s r = q) (same : q.sheet = r.sheet) (closed : q.trailExp = none) (unheld : heldEntry s q = none) :
    crossTrail r s = putRec q s := by
  have opens : openTrail (putRec q s) q = none := by
    have : heldEntry (putRec q s) q = none := unheld
    simp [openTrail, this]
  have shut : trailed none q = q := by rw [trailed, ← closed]
  rw [crossTrail_ungated ungated, crossed, openStay_eq (findRec_putRec f same), opens, shut, judgeStay_closed closed,
    putRec_putRec s (r := q) rfl]

/-- The trail crosses onto a step at whose start its next stay window opens, which may fail at once (R81, R82). -/
theorem crossTrail_opens (ungated : definedEntries s.pms.gates = []) (f : findRec s r.sheet = some r₀) {q : Record} {a : Arrival}
    {h : SegEntry} (crossed : trailOn s r = q) (same : q.sheet = r.sheet) (held : heldEntry s q = some a)
    (seg : s.pms.seg? a.seg = some h) :
    crossTrail r s = judgeStay (trailed (some (stayOn s q a h)) q) (putRec (trailed (some (stayOn s q a h)) q) s) := by
  have opens : openTrail (putRec q s) q = some (stayOn s q a h) := openTrail_held held seg
  rw [crossTrail_ungated ungated, crossed, openStay_eq (findRec_putRec f same), opens, putRec_putRec s (trailed_sheet _ q)]

end Cross

end Sys2Proof.Machine
end

section
/-! SUPPORT. LEAD edges at a node where a lead is expected (R61, R62, R69, R77, R85), and the obligations ArrivalJudged and
HandOffsMade. -/

namespace Sys2Proof.Machine

/-! ## Edges -/

/-- An edge whose event is a jam while sheets are driven (R102, R117). -/
theorem sensorEdge_fails {line x y n : Nat} {lead : Bool} {c : JamCause} {as : List Nat} {s u : State} (w : Awake s)
    (h : Edge s line x y n lead) (e : edgeEvent n lead (edged line y n lead s) = raiseJam c as u) (driven : Driven u)
    (room : Room 1 u) (q : Settled u) : exec (.sensorEdge line x y) s = .next (failed c as u) :=
  congrArg Host.Outcome.next (takeEvent_fails w.1 ((takeSamples_edge h).trans e) driven room q)

theorem edgeEvent_lead {n z : Nat} {s : State} (h : nodeZone s.pms n = some z) :
    edgeEvent n true s = takeLead n z (travelOf s z) s := by
  simp [edgeEvent, h, levelEvent_covered]

theorem raiseSheet_eq {c : Cause} {n z : Nat} {v b : Option Int} {r : Record} {s : State} (f : findRec s r.sheet = some r) :
    raiseSheet c r.sheet n z v b s = raiseJam ⟨c, some r.sheet, some n, some z, v, b, s.sys.now⟩
      (unionAreas (bodyAreas s.pms r) (nodeAreas s.pms n)) s := by
  simp [raiseSheet, causeNow, sheetAreas, f]

theorem travelDiff_self (x : Travel) : travelDiff x x = 0 := by
  simp [travelDiff]

/-! ## Arrivals -/

section Arrival

variable {n z i : Nat} {stamp : Travel} {r : Record} {e : LeadExp} {g : SegEntry} {s : State}

theorem takeLead_arrival (moves : moving s = true) (pocket : pocketEnd s n = false) (back : returnsWithin s n = none)
    (nearest : expectedAt s n = some r) (window : r.leadExp = some e) :
    takeLead n z stamp s = judgeArrival n z stamp r e s := by
  unfold moving at moves
  unfold takeLead
  split at moves <;> simp_all

theorem judgeArrival_early (kind : e.kind = .travel) (judges : judged s r = true) (early : travelDiff stamp e.ref < e.lo) :
    judgeArrival n z stamp r e s =
      raiseSheet .early r.sheet n e.zone (some (travelDiff stamp e.ref)) (some (e.lo : Nat)) s := by
  simp [judgeArrival, kind, judges, early]

theorem judgeArrival_late (kind : e.kind = .travel) (judges : judged s r = true) (reached : (e.lo : Int) ≤ travelDiff stamp e.ref)
    (late : travelDiff stamp e.ref > e.hi) : judgeArrival n z stamp r e s =
      raiseSheet .late r.sheet n e.zone (some (travelDiff stamp e.ref)) (some (e.hi : Nat)) s := by
  simp [judgeArrival, kind, judges, late, not_lt.2 reached]

theorem judgeArrival_accepts (h : e.kind = .travel → judged s r = true →
    (e.lo : Int) ≤ travelDiff stamp e.ref ∧ travelDiff stamp e.ref ≤ e.hi) :
    judgeArrival n z stamp r e s = acceptArrival n z stamp r s := by
  unfold judgeArrival
  dsimp only
  rw [if_neg fun c => absurd (h c.1 c.2.1).1 (not_le.2 c.2.2), if_neg fun c => absurd (h c.1 c.2.1).2 (not_le.2 c.2.2)]

theorem acceptArrival_eq (step : stepNo (pathOf s.pms r) r.lead.step = some i) :
    acceptArrival n z stamp r s = settle r.sheet (takeStep 0 [⟨n, z, stamp, i, false⟩] r s) := by
  simp [acceptArrival, step]

/-- An accepted arrival behind a trail that waits at an earlier sensor: the lead takes the next step, and no more. -/
theorem acceptArrival_behind (ungated : definedEntries s.pms.gates = []) (f : findRec s r.sheet = some r) (sent : NoHandOff s r)
    (step : stepNo (pathOf s.pms r) r.lead.step = some i) (next : stepSeg s.pms r (r.lead.step + 1) = some g)
    (forward : g.kind ≠ .reverse) (seen : working s g.dst = true) (held : (heldEntry s r).isSome = true) :
    acceptArrival n z stamp r s = putRec { r with
      progress := .moving
      lead := ⟨r.lead.step + 1, travelOf s g.zone, 0⟩
      leadExp := some (windowOn s r g 0)
      arrivals := r.arrivals ++ [⟨n, z, stamp, i, false⟩] } s := by
  have taken := takeStep_behind (x := 0) (arr := [⟨n, z, stamp, i, false⟩]) ungated f sent (heldEntry_behind held).ne
  have rests : Rests s (onward s 0 [⟨n, z, stamp, i, false⟩] r) :=
    rests_held ((leadSeg_onward ..).trans next) (.inr (markLike_working seen)) (heldEntry_onward held)
  rw [acceptArrival_eq step, taken, settle_putRec rests f rfl, onward_arrived next forward seen]

/-- An accepted arrival on the step that the trail stands on: the trail's stay window opens at the node. -/
theorem acceptArrival_leaves (ungated : definedEntries s.pms.gates = []) (f : findRec s r.sheet = some r) (sent : NoHandOff s r)
    (step : stepNo (pathOf s.pms r) r.lead.step = some i) (next : stepSeg s.pms r (r.lead.step + 1) = some g)
    (forward : g.kind ≠ .reverse) (seen : working s g.dst = true) {h : SegEntry} (same : r.trailStep = r.lead.step)
    (bare : r.arrivals = []) (lead : leadSeg s.pms r = some h) (src : g.src = n) (here : working s n = true) :
    acceptArrival n z (travelOf s z) r s = putRec { r with
      progress := .moving
      lead := ⟨r.lead.step + 1, travelOf s g.zone, 0⟩
      leadExp := some (windowOn s r g 0)
      trailExp := some (stayOn s r ⟨n, z, travelOf s z, i, false⟩ h)
      arrivals := r.arrivals ++ [⟨n, z, travelOf s z, i, false⟩] } s := by
  generalize hv : (⟨n, z, travelOf s z, i, false⟩ : Arrival) = v
  have held : heldEntry s (onward s 0 [v] r) = some v := by
    have node : trailNext s.pms (onward s 0 [v] r) = some n := by
      rw [← src]
      exact congrArg (Option.map (·.src)) ((congrArg (stepSeg s.pms r) (congrArg (· + 1) same)).trans next)
    have entry : (r.arrivals ++ [v]).find? (fun a => a.node == n) = some v := by simp [bare, ← hv]
    exact heldEntry_eq_some.2 ⟨same.trans_lt (Nat.lt_succ_self _), n, node, here, entry⟩
  have seg : s.pms.seg? v.seg = some h := by
    rw [← hv]
    simpa [leadSeg, stepSeg, step] using lead
  have fresh (e : TrailExp) (he : some (stayOn s r v h) = some e) : trailRun s e ≤ e.hi := by
    obtain rfl := Option.some.inj he
    have run : trailRun s (stayOn s r v h) = 0 := by rw [← hv]; exact travelDiff_self _
    rw [run]
    exact Int.natCast_nonneg _
  have taken : takeStep 0 [v] r s = putRec (trailed (some (stayOn s r v h)) (onward s 0 [v] r)) s :=
    takeStep_leaves ungated f sent same (openTrail_held held seg) fresh
  have rests : Rests s (trailed (some (stayOn s r v h)) (onward s 0 [v] r)) :=
    rests_held (g := g) next (.inr (markLike_working seen)) (congrArg Option.isSome held)
  rw [acceptArrival_eq step, hv, taken, settle_putRec rests f rfl, onward_arrived next forward seen]
  rfl

end Arrival

/-! ## The statement of ArrivalJudged -/

/-- Settles O32: the edge is judged against its window, and an accepted one takes the lead's step (`takeStep_behind`) or opens the
stay window as well (`takeStep_leaves`). -/
theorem arrivalJudged : Obligations.ArrivalJudged := by
  intro line x y n z r e s w path edge zone pocket back nearest found window a p areas cause
  have judges : judged p r = true := (judged_eq_true (s := p) w.2.2).2 (.inl path)
  have taken : edgeEvent n true p = judgeArrival n z (travelOf s z) r e p :=
    (edgeEvent_lead (s := p) zone).trans
      (takeLead_arrival (s := p) (by simp [moving, p, edged, path]) pocket back nearest window)
  have jams {c : Cause} {bound : Int} (room : Room 1 s)
      (h : judgeArrival n z (travelOf s z) r e p = raiseSheet c r.sheet n e.zone (some a) (some bound) p) :
      exec (.sensorEdge line x y) s = .next (jammed (cause c bound) areas p) :=
    sensorEdge_edge w edge ((taken.trans h).trans ((raiseSheet_eq (s := p) found).trans (raiseJam_halts (.inr path) room))) w.2
  refine ⟨fun kind early room => jams room (judgeArrival_early kind judges early),
    fun kind reached late room => jams room (judgeArrival_late kind judges reached late), ?_⟩
  intro i g accepts step next forward seen ungated unneeded entry q
  have accepted {u : State} (settled : Settled u) (h : acceptArrival n z (travelOf s z) r p = u) :
      exec (.sensorEdge line x y) s = .next u := by
    refine sensorEdge_edge w edge (taken.trans ((judgeArrival_accepts fun kind _ => ?_).trans h)) settled
    exact (accepts.resolve_left fun pick => by simp [kind] at pick).2
  have alike : Alike s p := edged_alike line y n true s
  have seen' : working p g.dst = true := (alike.working _).trans seen
  refine ⟨fun _ held => accepted w.2 ?_, fun h same bare lead src here => accepted w.2 ?_⟩
  · exact acceptArrival_behind (s := p) ungated found (.inr unneeded) step next forward seen'
      ((congrArg _ (alike.heldEntry r)).trans held)
  · exact acceptArrival_leaves (s := p) ungated found (.inr unneeded) step next forward seen' same bare lead src
      ((alike.working n).trans here)

/-! ## Hand-offs -/

section HandOff

variable {n k : Nat} {r : Record} {g : SegEntry} {bin : Option Nat} {s : State}

/-- The lead's step is the first that needs a station when its end needs one and no step before it does (R69). -/
theorem firstStationStep_next {m : MapStore} (next : stepSeg m r (r.lead.step + 1) = some g)
    (needs : (stationOfNode m g.dst).isSome = true) (before : stationsNeeded m ((pathOf m r).take r.lead.step) 1 = []) :
    firstStationStep m r (r.lead.step + 1) = true := by
  obtain ⟨k, hk⟩ := Option.isSome_iff_exists.1 needs
  obtain ⟨i, here, seg⟩ := Option.bind_eq_some_iff.1 next
  have here : (pathOf m r)[r.lead.step]? = some i := by simpa [stepNo] using here
  have mem : k ∈ stationsNeeded m ((pathOf m r).take (r.lead.step + 1)) (r.lead.step + 1) := by
    refine List.mem_filterMap.2 ⟨i, List.mem_iff_getElem?.2 ⟨0, ?_⟩, by simp [seg, hk]⟩
    simp [List.getElem?_drop, here]
  have some : (stationsNeeded m ((pathOf m r).take (r.lead.step + 1)) (r.lead.step + 1)).isEmpty = false := by
    rw [List.isEmpty_eq_false_iff]
    exact List.ne_nil_of_mem mem
  simp [firstStationStep, some, before]

theorem handOffStep_offers (f : findRec s n = some r) (unmade : r.handOff = false) (own : r.purgeJoin = none)
    (first : firstStationStep s.pms r r.lead.step = true) (lead : leadSeg s.pms r = some g)
    (target : handOffTarget s.pms r g.dst = some (k, bin)) : handOffStep n s = offerHandOff r k bin s := by
  simp [handOffStep, f, unmade, own, first, lead, target]

/-- The station and the bin of a hand-off (R69, R147, log 18). -/
theorem handOffTarget_eq {m : MapStore} (h : stationOfNode m (routeDest m r.route) = some k ∨
      (stationOfNode m (routeDest m r.route) = none ∧ stationOfNode m n = some k)) :
    handOffTarget m r n = some (k, if stationOfNode m (routeDest m r.route) = some k
      then (m.node? (routeDest m r.route)).bind (·.localNo) else none) := by
  rcases h with h | ⟨h, here⟩
  · simp [handOffTarget, h]
  · simp [handOffTarget, h, here]

theorem countHandOff_single (h : r.setPart = none) : countHandOff r s = s := by
  simp [countHandOff, setOf, h]

theorem countHandOff_member {p : SetPart} {e : SetEntry} (h : r.setPart = some p)
    (found : (s.xlm.sets.find? fun y => y.slot == p.slot && y.job == r.job && y.number == p.number) = some e) :
    countHandOff r s = setSets (s.xlm.sets.map fun y => if y.slot = e.slot
      then { e with handedOff := e.handedOff + 1, lastSeen := e.lastSeen || p.last } else y) s := by
  simp [countHandOff, setOf, h, found, putSet]

/-- A queue with room takes the hand-off (R155). -/
theorem offerHandOff_takes (room : (stationAt s k).handOffs.length < 4) : offerHandOff r k bin s =
    countHandOff r (putRec { r with handOff := true } (setStation k { stationAt s k with
      handOffs := (stationAt s k).handOffs ++ [⟨r.sheet, r.setPart, bin⟩] } s)) := by
  simp [offerHandOff, room]

theorem offerHandOff_waits (full : 4 ≤ (stationAt s k).handOffs.length) (h : (stationAt s k).link ≠ .online) :
    offerHandOff r k bin s = s := by
  simp [offerHandOff, not_lt.2 full, h]

theorem offerHandOff_loses (full : 4 ≤ (stationAt s k).handOffs.length) (h : (stationAt s k).link = .online) :
    offerHandOff r k bin s = loseStation true k s := by
  simp [offerHandOff, not_lt.2 full, h]

/-! ## A station lost -/

/-- A station that has become LOST, before LINK_LOST is judged (R159): with no area listed, none becomes due. -/
def stationGone (b : Bool) (k : Nat) (s : State) : State :=
  noticed [.station k .lost (.lost b)] (setStation k { stationAt s k with link := .lost, retry := 0, miss := 0, handOffs := [] } s)

theorem loseStation_eq {b : Bool} (unlisted : s.clm.list = []) (room : Room 1 s) (bank : k - 1 < s.xlm.stations.length) :
    loseStation b k s = linkLost k (stationGone b k s) := by
  have link {v : StationState} : (stationAt (setStation k v s) k).link = v.link := by rw [stationAt_setStation bank]
  have undue : dueForStation k (stationGone b k s) = stationGone b k s := by
    simp [dueForStation, stationGone, noticed, unlisted]
  unfold loseStation stationNotice
  dsimp only
  rw [link, post_room _ (by exact room)]
  exact congrArg (linkLost k) undue

theorem linkLost_idle (h : ¬Driven s ∨ stationInUse s k = false) : linkLost k s = s := by
  refine if_neg ?_
  rintro ⟨driven, used⟩
  rcases h with h | h
  · exact h ((positioning_iff s).1 driven)
  · exact absurd used (by simp [h])

theorem linkLost_jams (driven : Driven s) (used : stationInUse s k = true) : linkLost k s =
    raiseJam ⟨.linkLost, none, none, none, some (k : Int), none, s.sys.now⟩ (linkAreas s.pms k) s :=
  if_pos ⟨(positioning_iff s).2 driven, used⟩

end HandOff

/-! ## The statement of HandOffsMade -/

section Offer

variable {n z i k : Nat} {bin : Option Nat} {stamp : Travel} {r : Record} {g : SegEntry} {s : State}

/-- A record whose lead has arrived on a step that ends at a REMOTE node. -/
def remoteStep (s : State) (g : SegEntry) (a : Arrival) (r : Record) : Record := { r with
  lead := ⟨r.lead.step + 1, travelOf s g.zone, 0⟩
  leadExp := some (remoteOn s (windowOn s r g 0))
  arrivals := r.arrivals ++ [a] }

theorem onward_remote (next : stepSeg s.pms r (r.lead.step + 1) = some g) (forward : g.kind ≠ .reverse)
    (remote : nodeKind s.pms g.dst = some .remote) (progress : r.progress = .moving) {a : Arrival} :
    onward s 0 [a] r = remoteStep s g a r := by
  rw [onward_unseen next forward (unseen_end (.inl remote)).1, if_pos remote, ← progress]
  rfl

/-- Onto the first step that needs a station the sheet is offered to it (R69). -/
theorem acceptArrival_offers (ungated : definedEntries s.pms.gates = []) (f : findRec s r.sheet = some r)
    (step : stepNo (pathOf s.pms r) r.lead.step = some i) (next : stepSeg s.pms r (r.lead.step + 1) = some g)
    (forward : g.kind ≠ .reverse) (remote : nodeKind s.pms g.dst = some .remote) (progress : r.progress = .moving)
    (behind : r.trailStep < r.lead.step) (unmade : r.handOff = false) (own : r.purgeJoin = none)
    (before : stationsNeeded s.pms ((pathOf s.pms r).take r.lead.step) 1 = []) (needs : (stationOfNode s.pms g.dst).isSome = true)
    (target : handOffTarget s.pms r g.dst = some (k, bin)) :
    let q := remoteStep s g ⟨n, z, stamp, i, false⟩ r
    acceptArrival n z stamp r s = settle r.sheet (offerHandOff q k bin (putRec q s)) := by
  intro q
  have stepped : onward s 0 [⟨n, z, stamp, i, false⟩] r = q := onward_remote next forward remote progress
  have offered : handOffStep r.sheet (putRec q s) = offerHandOff q k bin (putRec q s) :=
    handOffStep_offers (r := q) (findRec_putRec f rfl) unmade own (firstStationStep_next next needs before) next target
  rw [acceptArrival_eq step, takeStep_ungated ungated, if_neg behind.ne, stepped, offered]

/-- Behind a trail that waits at a working sensor it takes no further crossing. -/
theorem remoteStep_rests {a : Arrival} (next : stepSeg s.pms r (r.lead.step + 1) = some g)
    (remote : nodeKind s.pms g.dst = some .remote) (forward : g.kind ≠ .reverse) (progress : r.progress = .moving)
    (held : (heldEntry s r).isSome = true) : Rests s (remoteStep s g a r) := by
  have held' : (heldEntry s (onward s 0 [a] r)).isSome = true := heldEntry_onward held
  rw [onward_remote next forward remote progress] at held'
  exact rests_held next (.inr (unseen_end (.inl remote)).2) held'

end Offer

/-- Settles O34: the arrival takes the lead onto the station's step, which offers the hand-off to the station's queue
(`acceptArrival_offers`), and nothing else crosses then (`remoteStep_rests`). -/
theorem handOffsMade : Obligations.HandOffsMade := by
  intro line x y n z i k r e g s w arrives ungated unlisted progress behind held step next kind remote unmade own before needs low high
    station bin stepped p q taken gone
  obtain ⟨edge, zone, moves, pocket, back, nearest, found, window, accepts⟩ := arrives
  let u := edged line y n true s
  have forward : g.kind ≠ .reverse := by simp [kind]
  have held' : (heldEntry u r).isSome = true := (congrArg _ ((edged_alike line y n true s).heldEntry r)).trans held
  have rests : Rests p stepped := by
    have h : Rests u stepped := remoteStep_rests (s := u) next remote forward progress held'
    exact ⟨h.lead, h.trail, h.stays⟩
  have bank : k - 1 < p.xlm.stations.length := by
    have : k - 1 < s.xlm.stations.length := by omega
    exact this
  have putted : findRec p r.sheet = some stepped := findRec_putRec (s := u) found rfl
  have offered : edgeEvent n true u = settle r.sheet (offerHandOff stepped k bin p) := by
    refine (edgeEvent_lead (s := u) zone).trans ((takeLead_arrival (s := u) moves pocket back nearest window).trans ?_)
    refine (judgeArrival_accepts fun kind judges => ?_).trans
      (acceptArrival_offers (s := u) ungated found step next forward remote progress behind unmade own before needs
        (handOffTarget_eq station))
    have watched : Watched s r := (judged_eq_true (s := u) w.2.2).1 judges
    exact (accepts.resolve_left fun c => c kind).resolve_left fun c => c watched
  have ends {t : State} {r' : Record} (h : offerHandOff stepped k bin p = t) (settled : Settled t)
      (f : findRec t r.sheet = some r') (still : Rests t r') : exec (.sensorEdge line x y) s = .next t := by
    refine sensorEdge_edge w edge ?_ settled
    rw [← settle_rests f still, ← h]
    exact offered
  have put : findRec taken r.sheet = some { stepped with handOff := true } := findRec_putRec (s := p) putted rfl
  have still : Rests taken { stepped with handOff := true } := ⟨rests.lead, rests.trail, rests.stays⟩
  have lost : gone = stationGone true k p := by
    have due : stationDue s k = s.clm.due := by simp [stationDue, unlisted]
    simp only [gone, due]
    rfl
  have gone_rests : Rests gone stepped := ⟨rests.lead, rests.trail, rests.stays⟩
  have loses (full : 4 ≤ q.handOffs.length) (online : q.link = .online) (told : Room 1 s) :
      offerHandOff stepped k bin p = linkLost k gone := by
    rw [offerHandOff_loses (s := p) full online, loseStation_eq (s := p) unlisted told bank, lost]
  refine ⟨fun room single => ?_, fun m x' room member hx => ?_, fun full off => ?_, fun full online => ⟨fun quiet told => ?_,
    fun driven used told => ?_⟩⟩
  · exact ends ((offerHandOff_takes (s := p) room).trans (countHandOff_single single)) w.2 put still
  · exact ends ((offerHandOff_takes (s := p) room).trans (countHandOff_member member hx)) w.2 put
      ⟨still.lead, still.trail, still.stays⟩
  · exact ends (offerHandOff_waits (s := p) full off) w.2 putted rests
  · exact ends ((loses full online told).trans (linkLost_idle (s := gone) quiet)) w.2 putted gone_rests
  · have one : Room 1 s ∧ Room 1 gone := by
      simp only [Room, gone, noticed, List.length_append, List.length_singleton] at told ⊢
      exact ⟨by omega, by exact told⟩
    refine sensorEdge_fails w edge (u := gone) ?_ driven one.2 w.2
    refine offered.trans
      ((congrArg (settle r.sheet) ((loses full online one.1).trans (linkLost_jams (s := gone) driven used))).trans ?_)
    exact settle_raiseJam (s := gone) putted gone_rests

end Sys2Proof.Machine
end

section
/-! SUPPORT. TRAIL edges at a node where a stay window is open (R64, R82 to R84), and the obligation TrailJudged. -/

namespace Sys2Proof.Machine

/-! ## The nearest lead expected at a node -/

section Nearest

variable {s t : State} {n : Nat} {r q : Record}

theorem nearest_mem {k : Record → Int} {l : List Record} (h : nearest k l = some r) : r ∈ l := by
  induction l generalizing r with
  | nil => cases h
  | cons x l ih =>
    unfold nearest at h
    split at h
    · exact List.mem_cons.2 (.inl (Option.some.inj h).symm)
    · rename_i q hq
      split at h
      · exact List.mem_cons_of_mem x (Option.some.inj h ▸ ih hq)
      · exact List.mem_cons.2 (.inl (Option.some.inj h).symm)

theorem nearest_map {k : Record → Int} {f : Record → Record} {l : List Record} (h : ∀ x ∈ l, k (f x) = k x) :
    nearest k (l.map f) = (nearest k l).map f := by
  induction l with
  | nil => rfl
  | cons x l ih =>
    obtain ⟨here, rest⟩ := List.forall_mem_cons.1 h
    have tail := ih rest
    rw [List.map_cons]
    unfold nearest
    rw [tail]
    cases hq : nearest k l with
    | none => rfl
    | some q =>
      have same := rest q (nearest_mem hq)
      dsimp only [Option.map_some]
      rw [here, same]
      split <;> rfl

/-- `q` has the lead of `r` and the window that it opened. -/
structure SameLead (m : MapStore) (r q : Record) : Prop where
  window : q.leadExp = r.leadExp
  distance : remainingSigned m q = remainingSigned m r

theorem expectedAt_map {f : Record → Record} (pms : t.pms = s.pms) (list : t.flt.list = s.flt.list.map f)
    (h : ∀ x ∈ s.flt.list, SameLead s.pms x (f x)) : expectedAt t n = (expectedAt s n).map f := by
  have windows : (s.flt.list.map f).filter (fun r => r.leadExp.any fun e => e.node == n) =
      (s.flt.list.filter fun r => r.leadExp.any fun e => e.node == n).map f := by
    rw [List.filter_map]
    refine congrArg (List.map f) (List.filter_congr fun x hx => ?_)
    simp [(h x hx).window]
  unfold expectedAt
  rw [pms, list, windows]
  exact nearest_map fun x hx => (h x (List.mem_of_mem_filter hx)).distance

theorem expectedAt_mem (h : expectedAt s n = some r) : r ∈ s.flt.list := List.mem_of_mem_filter (nearest_mem h)

/-- One record stands under each number. -/
theorem findRec_mem (distinct : (s.flt.list.map (·.sheet)).Nodup) (h : r ∈ s.flt.list) : findRec s r.sheet = some r := by
  obtain ⟨pre, post, list⟩ := List.append_of_mem h
  refine (findRec_split list rfl fun x hx same => ?_).1
  rw [list, List.map_append, List.map_cons] at distinct
  exact (List.nodup_append.1 distinct).2.2 _ (List.mem_map_of_mem hx) _ List.mem_cons_self same

end Nearest

/-! ## What a jam leaves for the other failures of its event -/

section Jammed

variable {c : JamCause} {as : List Nat} {s : State} {r : Record} {n : Nat}

theorem raiseJam_clm (c : JamCause) (as : List Nat) (s : State) : (raiseJam c as s).clm = s.clm := by
  unfold raiseJam
  split
  case h_4 => split <;> rfl
  all_goals simp [firstCause, secondFailure, haltZones]

theorem raiseJam_first (h : s.rcv.path = .running) : (raiseJam c as s).rcv.moment = s.rcv.moment := by
  simp [raiseJam, h, firstCause, haltZones]

theorem raiseJam_second (h : s.rcv.path = .runout) :
    (raiseJam c as s).rcv.moment = openMoment c.cause s ∧ (raiseJam c as s).rcv.jam.second = some c := by
  simp [raiseJam, h, secondFailure, haltZones]

/-- After a second failure, and only then, the rest of its event judges the windows that were judged before it (R87, log 74). -/
theorem raiseJam_judged (driven : Driven s) (cause : c.cause ≠ .gate) (settled : s.rcv.moment.underway = false)
    (distinct : (s.flt.list.map (·.sheet)).Nodup) (mem : r ∈ s.flt.list) (d : Option Disp) :
    judged (raiseJam c as s) (disposed d r) = true ↔ s.rcv.path = .runout ∧ judged s r = true := by
  have halting : (raiseJam c as s).rcv.path = .halting := raiseJam_stops driven
  have after : judged (raiseJam c as s) (disposed d r) =
      ((raiseJam c as s).rcv.moment.underway && (raiseJam c as s).rcv.moment.sheets.contains r.sheet) := by
    simp [judged, halting, disposed]
  rw [after]
  rcases driven with path | path
  · simp [raiseJam_first path, settled, path]
  · rw [(raiseJam_second path).1, openMoment, if_neg cause]
    simp only [Bool.true_and, List.contains_iff_mem, List.mem_map, List.mem_filter, path, true_and]
    refine ⟨?_, fun h => ⟨r, ⟨mem, h⟩, rfl⟩⟩
    rintro ⟨q, ⟨hq, judges⟩, same⟩
    obtain rfl : q = r := List.inj_on_of_nodup_map distinct hq mem same
    exact judges

end Jammed

/-! ## CROWD -/

section Crowd

variable {c : JamCause} {as : List Nat} {n : Nat} {m : Params} {r : Record} {w : LeadExp} {s : State}

/-- No lead expected at the node is closer than the min gap (R84). -/
theorem judgeCrowd_clear (params : s.pms.params = some m) (h : ∀ q, expectedAt s n = some q → judged s q = true →
    ((m.minGap * 100 : Nat) : Int) ≤ max 0 (remainingSigned s.pms q)) : judgeCrowd n s = s := by
  unfold judgeCrowd
  rw [params]
  split
  · rename_i q p hq hp
    obtain rfl := Option.some.inj hp
    exact if_neg fun c => absurd (h q hq c.1) (not_le.2 c.2)
  · rfl

theorem judgeCrowd_jams (params : s.pms.params = some m) (nearest : expectedAt s n = some r) (window : r.leadExp = some w)
    (judges : judged s r = true) (close : max 0 (remainingSigned s.pms r) < ((m.minGap * 100 : Nat) : Int))
    (f : findRec s r.sheet = some r) : judgeCrowd n s =
      raiseJam ⟨.crowd, some r.sheet, some n, some w.zone, some (max 0 (remainingSigned s.pms r)),
        some ((m.minGap * 100 : Nat) : Int), s.sys.now⟩ (unionAreas (bodyAreas s.pms r) (nodeAreas s.pms n)) s := by
  have zone : (r.leadExp.map (·.zone)).getD 0 = w.zone := by simp [window]
  unfold judgeCrowd
  rw [nearest, params]
  exact (if_pos ⟨judges, close⟩).trans ((congrArg (raiseSheet .crowd r.sheet n · _ _ s) zone).trans (raiseSheet_eq f))

/-- Behind a jam of the same event a CROWD adds its areas in RUNOUT, and is nothing in RUNNING (R87, R93, log 74). -/
theorem judgeCrowd_raiseJam (params : s.pms.params = some m) (driven : Driven s) (cause : c.cause ≠ .gate)
    (settled : s.rcv.moment.underway = false) (distinct : (s.flt.list.map (·.sheet)).Nodup) :
    ((s.rcv.path = .running ∨ ∀ q, expectedAt s n = some q → judged s q = true →
        ((m.minGap * 100 : Nat) : Int) ≤ max 0 (remainingSigned s.pms q)) →
      judgeCrowd n (raiseJam c as s) = raiseJam c as s) ∧
    (s.rcv.path = .runout → expectedAt s n = some r → r.leadExp.isSome = true → judged s r = true →
      max 0 (remainingSigned s.pms r) < ((m.minGap * 100 : Nat) : Int) →
      judgeCrowd n (raiseJam c as s) = joinAreas (unionAreas (bodyAreas s.pms r) (nodeAreas s.pms n)) (raiseJam c as s)) := by
  have pms : (raiseJam c as s).pms = s.pms := raiseJam_pms c as s
  have params' : (raiseJam c as s).pms.params = some m := pms ▸ params
  obtain ⟨f, list⟩ := raiseJam_list c as s
  have expected : expectedAt (raiseJam c as s) n = (expectedAt s n).map fun r => disposed (f r) r :=
    expectedAt_map pms list fun _ _ => ⟨rfl, rfl⟩
  refine ⟨fun h => judgeCrowd_clear params' fun q hq judges => ?_, fun path nearest window judges close => ?_⟩
  · rw [expected] at hq
    obtain ⟨r, hr, rfl⟩ := Option.map_eq_some_iff.1 hq
    obtain ⟨path, judges⟩ := (raiseJam_judged driven cause settled distinct (expectedAt_mem hr) (f r)).1 judges
    rcases h with h | h
    · exact absurd (h.symm.trans path) (by decide)
    · exact pms ▸ h r hr judges
  · obtain ⟨w, hw⟩ := Option.isSome_iff_exists.1 window
    have mem := expectedAt_mem nearest
    have found : findRec (raiseJam c as s) r.sheet = some (disposed (f r) r) := findRec_disposed list (findRec_mem distinct mem)
    have nearest' : expectedAt (raiseJam c as s) n = some (disposed (f r) r) := by rw [expected, nearest]; rfl
    have jams := judgeCrowd_jams params' nearest' (w := w) hw
      ((raiseJam_judged driven cause settled distinct mem (f r)).2 ⟨path, judges⟩) (by rw [pms]; exact close) found
    rw [jams, raiseJam_joins (raiseJam_stops driven) (by simp [(raiseJam_second path).2]), pms]
    rfl

end Crowd

/-! ## The edge judged -/

section Judged

variable {n z : Nat} {t : Int} {r r₀ : Record} {e : TrailExp} {s : State}

theorem takeTrail_judges (moves : moving s = true) (zone : nodeZone s.pms n = some z)
    (found : (s.flt.list.find? fun q => q.trailExp.any fun w => w.node == n) = some r) (window : r.trailExp = some e) :
    edgeEvent n false s = levelEvent n .clear (judgeTrail n (travelDiff (travelOf s e.zone) e.ref) r e s) := by
  have travel : (if e.zone = z then travelDiff (travelOf s z) e.ref else travelDiff (travelOf s e.zone) e.ref) =
      travelDiff (travelOf s e.zone) e.ref := by
    split
    · rename_i same
      rw [same]
    · rfl
  simp [edgeEvent, zone, takeTrail, moves, found, window, travel]

theorem judgeTrail_stay (judges : judged s r = true) (past : t > e.hi) :
    judgeTrail n t r e s = raiseSheet .stay r.sheet n e.zone (some t) (some (e.hi : Nat)) s := by
  simp [judgeTrail, judges, past]

theorem judgeTrail_double (judges : judged s r = true) (below : t ≤ e.hi) (measuring : measures s n r = true)
    (double : t / 100 > (r.declared : Int) + r.doubleMargin) : judgeTrail n t r e s =
      raiseSheet .double r.sheet n e.zone (some (t / 100)) (some ((r.declared : Int) + r.doubleMargin)) s := by
  simp [judgeTrail, judges, not_lt.2 below, measuring, double]

theorem judgeTrail_size (judges : judged s r = true) (below : t ≤ e.hi) (measuring : measures s n r = true)
    (single : t / 100 ≤ (r.declared : Int) + r.doubleMargin)
    (size : t / 100 < (r.declared : Int) - r.tolerance ∨ (r.declared : Int) + r.tolerance < t / 100) : judgeTrail n t r e s =
      raiseSheet .size r.sheet n e.zone (some (t / 100)) (some (r.declared : Nat)) s := by
  simp [judgeTrail, judges, not_lt.2 below, measuring, not_lt.2 single, size]

theorem judgeTrail_short (judges : judged s r = true) (below : t ≤ e.hi) (plain : measures s n r = false)
    (short : t < ((lengthOf r : Int) - r.tolerance) * 100) : judgeTrail n t r e s =
      raiseSheet .short r.sheet n e.zone (some t) (some (((lengthOf r : Int) - r.tolerance) * 100)) s := by
  simp [judgeTrail, judges, not_lt.2 below, plain, short]

/-- A record with the length that its TRAIL edge measures, if it measures one (R64, R83). -/
def measuredBy (t : Int) (measuring : Bool) (r : Record) : Record :=
  { r with measured := if measuring then some (t / 100).toNat else r.measured }

theorem judgeTrail_accepts (h : judged s r = true → t ≤ e.hi ∧ if measures s n r
      then t / 100 ≤ (r.declared : Int) + r.doubleMargin ∧ (r.declared : Int) - r.tolerance ≤ t / 100 ∧
        t / 100 ≤ (r.declared : Int) + r.tolerance
      else ((lengthOf r : Int) - r.tolerance) * 100 ≤ t) :
    judgeTrail n t r e s = acceptTrail n (measuredBy t (measures s n r) r) s := by
  unfold judgeTrail measuredBy
  dsimp only
  rw [if_neg fun c => absurd (h c.1).1 (not_le.2 c.2)]
  cases measuring : measures s n r with
  | true =>
    simp only [measuring, if_true] at h
    rw [if_pos rfl, if_neg fun c => absurd (h c.1).2.1 (not_le.2 (by exact_mod_cast c.2)), if_neg]
    · rfl
    · rintro ⟨judges, low | high⟩
      · exact absurd (h judges).2.2.1 (not_le.2 low)
      · exact absurd (h judges).2.2.2 (not_le.2 (by exact_mod_cast high))
  | false =>
    simp only [measuring, Bool.false_eq_true, if_false] at h
    rw [if_neg (by simp), if_neg fun c => absurd (h c.1).2 (not_le.2 c.2)]
    rfl

/-- An accepted edge onto a step at whose start no stay window opens. -/
theorem acceptTrail_shut (ungated : definedEntries s.pms.gates = []) (f : findRec s r.sheet = some r₀) {q : Record}
    (crossed : trailOn s r = q) (same : q.sheet = r.sheet) (closed : q.trailExp = none) (unheld : heldEntry s q = none)
    (rests : Rests s q) : acceptTrail n r s = judgeCrowd n (putRec q s) := by
  have crosses : crossTrail r (putRec r s) = putRec q s :=
    (crossTrail_shut (s := putRec r s) ungated (findRec_putRec f rfl) crossed same closed unheld).trans (putRec_putRec s same)
  rw [acceptTrail, crosses, settle_putRec rests f same]

theorem judgeStay_fails (f : findRec s r.sheet = some r) (window : r.trailExp = some e) (judges : judged s r = true)
    (past : trailRun s e > e.hi) : judgeStay r s =
      raiseJam ⟨.stay, some r.sheet, some e.node, some e.zone, some (trailRun s e), some (e.hi : Int), s.sys.now⟩
        (unionAreas (bodyAreas s.pms r) (nodeAreas s.pms e.node)) s := by
  simp only [judgeStay, window]
  exact (if_pos ⟨judges, past⟩).trans (raiseSheet_eq f)

/-- An accepted edge onto a step at whose start the next stay window opens. -/
theorem acceptTrail_opens (ungated : definedEntries s.pms.gates = []) (f : findRec s r.sheet = some r₀) {q : Record} {a : Arrival}
    {g : SegEntry} (crossed : trailOn s r = q) (same : q.sheet = r.sheet) (held : heldEntry s q = some a)
    (seg : s.pms.seg? a.seg = some g) (rests : Rests s q) :
    let w := stayOn s q a g
    let u := putRec (trailed (some w) q) s
    ((judged s q = true → trailRun s w ≤ w.hi) → acceptTrail n r s = judgeCrowd n u) ∧
    (judged s q = true → trailRun s w > w.hi → acceptTrail n r s = judgeCrowd n
      (raiseJam ⟨.stay, some r.sheet, some w.node, some w.zone, some (trailRun s w), some (w.hi : Int), s.sys.now⟩
        (unionAreas (bodyAreas s.pms (trailed (some w) q)) (nodeAreas s.pms w.node)) u)) := by
  intro w u
  have rests' : Rests u (trailed (some w) q) := ⟨rests.lead, rests.trail, rests.stays⟩
  have put : findRec u r.sheet = some (trailed (some w) q) := findRec_putRec f same
  have put' : findRec u (trailed (some w) q).sheet = some (trailed (some w) q) := by rw [trailed_sheet, same]; exact put
  have crosses : crossTrail r (putRec r s) = judgeStay (trailed (some w) q) u :=
    (crossTrail_opens (s := putRec r s) ungated (findRec_putRec f rfl) crossed same held seg).trans
      (congrArg (judgeStay (trailed (some w) q)) (putRec_putRec s same))
  refine ⟨fun fresh => ?_, fun judges past => ?_⟩
  · have stays : judgeStay (trailed (some w) q) u = u := by
      refine judgeStay_keeps fun e he judges => ?_
      obtain rfl : w = e := Option.some.inj he
      exact fresh judges
    rw [acceptTrail, crosses, stays, settle_rests put rests']
  · have fails := judgeStay_fails (r := trailed (some w) q) put' rfl judges past
    rw [acceptTrail, crosses, fails, settle_raiseJam put rests', trailed_sheet, same]
    rfl

end Judged

/-! ## The statement -/

theorem watched_driven {s : State} {r : Record} (h : Watched s r) : Driven s := h.imp_right (·.1)

/-- What TrailJudged supposes of its edge. -/
structure TrailAt (s : State) (line x y n z : Nat) (m : Params) (r : Record) (e : TrailExp) (a : Arrival) : Prop where
  awake : Awake s
  edge : Edge s line x y n false
  moves : moving s = true
  zone : nodeZone s.pms n = some z
  params : s.pms.params = some m
  ungated : definedEntries s.pms.gates = []
  unlisted : s.clm.list = []
  distinct : (s.flt.list.map (·.sheet)).Nodup
  expects : (s.flt.list.find? fun q => q.trailExp.any fun w => w.node == n) = some r
  window : r.trailExp = some e
  progress : r.progress = .moving
  held : heldEntry s r = some a
  node : a.node = n

theorem putRec_sheets (q : Record) (s : State) : (putRec q s).flt.list.map (·.sheet) = s.flt.list.map (·.sheet) := by
  rw [putRec, setList_flt_list, List.map_map]
  refine List.map_congr_left fun x _ => ?_
  dsimp only [Function.comp_apply]
  split
  · rename_i same
    exact same.symm
  · rfl

/-- An event's end, behind whatever its edge does. -/
theorem sensorEdge_event {line x y n : Nat} {lead : Bool} {s : State} (w : Awake s) (h : Edge s line x y n lead) :
    exec (.sensorEdge line x y) s = .next (finish (edgeEvent n lead (edged line y n lead s))) := by
  have taken : exec (.sensorEdge line x y) s =
      .next (takeEvent (fun s => takeSample line y (takeSample line x s)) (sensorPinned line y s)) := rfl
  rw [taken, takeEvent_live (s := sensorPinned line y s) w.1, takeSamples_edge h]

section TrailAt

variable {line x y n z : Nat} {m : Params} {r q : Record} {e : TrailExp} {a : Arrival} {s : State} (h : TrailAt s line x y n z m r e a)
include h

theorem TrailAt.mem : r ∈ s.flt.list := List.mem_of_find?_eq_some h.expects

theorem TrailAt.found : findRec s r.sheet = some r := findRec_mem h.distinct h.mem

theorem TrailAt.event {t : State} (judges : judgeTrail n (travelDiff (travelOf s e.zone) e.ref) r e (edged line y n false s) = t)
    (unlisted : t.clm.list = []) : edgeEvent n false (edged line y n false s) = t := by
  have taken := takeTrail_judges (s := edged line y n false s) h.moves h.zone h.expects h.window
  exact taken.trans ((levelEvent_unlisted n .clear (by rw [← unlisted, ← judges]; rfl)).trans judges)

theorem TrailAt.fails {c : JamCause} {as : List Nat} {u : State} (driven : Driven u) (room : Room 1 u) (settled : Settled u)
    (unlisted : u.clm.list = [])
    (judges : judgeTrail n (travelDiff (travelOf s e.zone) e.ref) r e (edged line y n false s) = raiseJam c as u) :
    exec (.sensorEdge line x y) s = .next (failed c as u) :=
  sensorEdge_fails h.awake h.edge (h.event judges (by rw [raiseJam_clm]; exact unlisted)) driven room settled

/-- `q` is the record as the edge leaves it: its lead, its window and its disposition stand. -/
structure Follows (m : MapStore) (r q : Record) : Prop extends SameLead m r q where
  sheet : q.sheet = r.sheet
  disp : q.disp = r.disp

theorem TrailAt.expected (f : Follows s.pms r q) : expectedAt (putRec q (edged line y n false s)) n =
    (expectedAt s n).map fun x => if x.sheet = q.sheet then q else x := by
  refine expectedAt_map (s := s) rfl rfl fun x hx => ?_
  split
  · rename_i same
    obtain rfl : x = r := List.inj_on_of_nodup_map h.distinct hx h.mem (same.trans f.sheet)
    exact f.toSameLead
  · exact ⟨rfl, rfl⟩

theorem TrailAt.put_distinct : ((putRec q (edged line y n false s)).flt.list.map (·.sheet)).Nodup := by
  rw [putRec_sheets]
  exact h.distinct

theorem TrailAt.judged_put (d : q.disp = r.disp) : judged (putRec q (edged line y n false s)) q = true ↔ Watched s r := by
  rw [judged_eq_true (s := putRec q (edged line y n false s)) h.awake.2.2]
  simp only [Watched, d]
  rfl

theorem TrailAt.judged_watched {x : Record} : judged (putRec q (edged line y n false s)) x = true ↔ Watched s x :=
  judged_eq_true (s := putRec q (edged line y n false s)) h.awake.2.2

/-- No lead is expected too close to the trail in the state that the edge leaves, where none is before it. -/
theorem TrailAt.apart (f : Follows s.pms r q) (clear : ∀ r2, expectedAt s n = some r2 → ¬Watched s r2 ∨
      ((m.minGap * 100 : Nat) : Int) ≤ max 0 (remainingSigned s.pms r2)) :
    ∀ x, expectedAt (putRec q (edged line y n false s)) n = some x → judged (putRec q (edged line y n false s)) x = true →
      ((m.minGap * 100 : Nat) : Int) ≤ max 0 (remainingSigned s.pms x) := by
  intro x hx judges
  rw [h.expected f] at hx
  obtain ⟨r2, nearest, rfl⟩ := Option.map_eq_some_iff.1 hx
  have far := clear r2 nearest
  split at judges
  · rename_i same
    obtain rfl : r2 = r := List.inj_on_of_nodup_map h.distinct (expectedAt_mem nearest) h.mem (same.trans f.sheet)
    rw [if_pos same, f.distance]
    exact far.resolve_left fun c => c ((h.judged_put f.disp).1 judges)
  · rename_i other
    rw [if_neg other]
    exact far.resolve_left fun c => c (h.judged_watched.1 judges)

theorem TrailAt.expected_other (f : Follows s.pms r q) {r2 : Record} (nearest : expectedAt s n = some r2)
    (other : r2.sheet ≠ r.sheet) : expectedAt (putRec q (edged line y n false s)) n = some r2 := by
  rw [h.expected f, nearest, Option.map_some, if_neg (by rwa [f.sheet])]

/-- An accepted edge, with what CROWD makes of it (R84). -/
theorem TrailAt.leaves (f : Follows s.pms r q) (accepts : judgeTrail n (travelDiff (travelOf s e.zone) e.ref) r e
      (edged line y n false s) = judgeCrowd n (putRec q (edged line y n false s))) :
    let u := putRec q (edged line y n false s)
    let gap : Int := (m.minGap * 100 : Nat)
    (∀ r2 w, expectedAt s n = some r2 → r2.sheet ≠ r.sheet → r2.leadExp = some w → Watched s r2 →
      max 0 (remainingSigned s.pms r2) < gap → Room 1 s → exec (.sensorEdge line x y) s = .next
        (failed ⟨.crowd, some r2.sheet, some n, some w.zone, some (max 0 (remainingSigned s.pms r2)), some gap, s.sys.now⟩
          (unionAreas (bodyAreas s.pms r2) (nodeAreas s.pms n)) u)) ∧
    ((∀ r2, expectedAt s n = some r2 → ¬Watched s r2 ∨ gap ≤ max 0 (remainingSigned s.pms r2)) →
      exec (.sensorEdge line x y) s = .next u) := by
  intro u gap
  refine ⟨fun r2 w nearest other window watched close room => ?_, fun clear => ?_⟩
  · have nearest' := h.expected_other f nearest other
    exact h.fails (watched_driven watched) room h.awake.2 h.unlisted (accepts.trans
      (judgeCrowd_jams (s := u) h.params nearest' window (h.judged_watched.2 watched) close
        (findRec_mem h.put_distinct (expectedAt_mem nearest'))))
  · have same := accepts.trans (judgeCrowd_clear (s := u) h.params (h.apart f clear))
    exact sensorEdge_edge h.awake h.edge (h.event same h.unlisted) h.awake.2

/-- An accepted edge whose next stay window is past its bound at once, with what CROWD adds to it (R82, R87, R93). -/
theorem TrailAt.stays (f : Follows s.pms r q) {c : JamCause} {as : List Nat} (cause : c.cause ≠ .gate) (watched : Watched s r)
    (room : Room 1 s) (accepts : judgeTrail n (travelDiff (travelOf s e.zone) e.ref) r e (edged line y n false s) =
      judgeCrowd n (raiseJam c as (putRec q (edged line y n false s)))) :
    let u := putRec q (edged line y n false s)
    let gap : Int := (m.minGap * 100 : Nat)
    (∀ r2, expectedAt s n = some r2 → r2.sheet ≠ r.sheet → r2.leadExp.isSome = true → Watched s r2 →
      max 0 (remainingSigned s.pms r2) < gap → exec (.sensorEdge line x y) s =
        .next (failedTwice c as (unionAreas (bodyAreas s.pms r2) (nodeAreas s.pms n)) u)) ∧
    ((∀ r2, expectedAt s n = some r2 → ¬Watched s r2 ∨ gap ≤ max 0 (remainingSigned s.pms r2)) →
      exec (.sensorEdge line x y) s = .next (failed c as u)) := by
  intro u gap
  have driven : Driven u := watched_driven watched
  have crowd := fun r2 => judgeCrowd_raiseJam (s := u) (as := as) (r := r2) (n := n) h.params driven cause h.awake.2.2 h.put_distinct
  have once (idle : judgeCrowd n (raiseJam c as u) = raiseJam c as u) : exec (.sensorEdge line x y) s = .next (failed c as u) :=
    h.fails driven room h.awake.2 h.unlisted (accepts.trans idle)
  refine ⟨fun r2 nearest other window watched2 close => ?_, fun clear => once ((crowd r).1 (.inr (h.apart f clear)))⟩
  rcases driven with path | path
  · rw [failedTwice, if_neg (by rw [path]; decide)]
    exact once ((crowd r2).1 (.inl path))
  · have joins := (crowd r2).2 path (h.expected_other f nearest other) window (h.judged_watched.2 watched2) close
    have event := h.event (accepts.trans joins) (by rw [joinAreas, setJam_clm, raiseJam_clm]; exact h.unlisted)
    have closes : closeEvent (raiseJam c as u) = failedAgain c as u := by
      rw [raiseJam_fails (.inr path) room h.awake.2.2, failed, if_pos path]
    have untouched : (joinAreas (unionAreas (bodyAreas u.pms r2) (nodeAreas u.pms n)) (raiseJam c as u)).rpq.touched = false := by
      rw [joinAreas, setJam_rpq, raiseJam_rpq]
      exact h.awake.2.1
    rw [sensorEdge_event h.awake h.edge, event, failedTwice, if_pos path, ← closes, finish_untouched untouched]
    rfl

/-- The record's reading of its node is that of the state before the edge. -/
theorem TrailAt.measures_eq : measures (edged line y n false s) n r =
    ((s.pms.node? n).bind (·.measure) == some true && !a.isReturn) := by
  have held : heldEntry (edged line y n false s) r = some a := ((edged_alike line y n false s).heldEntry r).trans h.held
  rw [measures, held]
  rfl

theorem TrailAt.seen : working s n = true := by
  obtain ⟨-, k, -, seen, first⟩ := heldEntry_eq_some.1 h.held
  have here := List.find?_some first
  rwa [← h.node, eq_of_beq here]

/-- The trail's next step, with its first arrivals entry gone (R64). -/
theorem TrailAt.on {r₁ : Record} {as : List Arrival} {g g' : SegEntry} (same : r₁ = { r with measured := r₁.measured })
    (first : r.arrivals = a :: as) (stands : stepSeg s.pms r r.trailStep = some g) (ends : g.dst = n)
    (next : stepSeg s.pms r (r.trailStep + 1) = some g') :
    trailOn (edged line y n false s) r₁ = (if g'.kind = .reverse ∧ r.trailStep + 1 = r.lead.step
      then { r₁ with trailExp := none, trailStep := r.trailStep + 1, arrivals := as, progress := .reversing,
                     depth := some ⟨0, travelOf s g'.zone, false⟩ }
      else { r₁ with trailExp := none, trailStep := r.trailStep + 1, arrivals := as }) := by
  rw [same]
  obtain ⟨-, k, waits, seen, here⟩ := heldEntry_eq_some.1 h.held
  have source : g'.src = k := by simpa [trailNext, next] using waits
  have is := List.find?_some here
  have node : a.node = g'.src := (eq_of_beq is).trans source.symm
  have plain : trailSides s.pms { r with measured := r₁.measured } = { r with measured := r₁.measured } :=
    trailSides_plain (h := g) stands (by rw [ends, nodeKind_working h.seen]; decide)
  rw [trailOn_eq (s := edged line y n false s) (r := { r with measured := r₁.measured }) next (.inr ⟨a, first, node⟩)]
  exact congrArg (fun x : Record => if g'.kind = .reverse ∧ r.trailStep + 1 = r.lead.step
    then { x with trailExp := none, trailStep := r.trailStep + 1, arrivals := as, progress := .reversing,
                  depth := some ⟨0, travelOf s g'.zone, false⟩ }
    else { x with trailExp := none, trailStep := r.trailStep + 1, arrivals := as }) plain

end TrailAt

/-- Settles O33: the edge is judged by `judgeTrail_stay` to `judgeTrail_short`, or accepted; where the trail comes to next decides whether
a stay window opens (`acceptTrail_shut`, `acceptTrail_opens`), and CROWD comes last (`TrailAt.leaves`, `TrailAt.stays`). -/
theorem trailJudged : Obligations.TrailJudged := by
  intro line x y n z m r e a s awake edge moves zone params ungated unlisted distinct expects window progress held node
    t k p measuring least most double short fails
  have h : TrailAt s line x y n z m r e a :=
    ⟨awake, edge, moves, zone, params, ungated, unlisted, distinct, expects, window, progress, held, node⟩
  have judges : judged p r = true ↔ Watched s r := judged_eq_true (s := p) awake.2.2
  have measured : measures p n r = measuring := h.measures_eq
  have jams {c : Cause} {v b : Int} (watched : Watched s r)
      (fault : judgeTrail n t r e p = raiseSheet c r.sheet n e.zone (some v) (some b) p) : fails c v b := fun room =>
    h.fails (u := p) (watched_driven watched) room awake.2 unlisted (fault.trans (raiseSheet_eq (s := p) h.found))
  refine ⟨fun watched past => jams watched (judgeTrail_stay (judges.2 watched) past),
    fun watched below measuring high => jams watched (judgeTrail_double (judges.2 watched) below (measured.trans measuring) high),
    fun watched below measuring single size =>
      jams watched (judgeTrail_size (judges.2 watched) below (measured.trans measuring) single size),
    fun watched below plain low => jams watched (judgeTrail_short (judges.2 watched) below (measured.trans plain) low),
    fun within as g g' gl first stands ends next lead beyond => ?_⟩
  intro q leaves
  have accepts : judgeTrail n t r e p = acceptTrail n (measuredBy t measuring r) p := by
    rw [← measured]
    refine judgeTrail_accepts fun judged => ?_
    rw [measured]
    exact within.resolve_left fun c => c (judges.1 judged)
  have found : findRec p (measuredBy t measuring r).sheet = some r := h.found
  have on := h.on (r₁ := measuredBy t measuring r) rfl first stands ends next
  have follows {x : Record} (window : x.leadExp = r.leadExp) (lead : remainingSigned s.pms x = remainingSigned s.pms r)
      (sheet : x.sheet = r.sheet) (disp : x.disp = r.disp) : Follows s.pms r x := ⟨⟨window, lead⟩, sheet, disp⟩
  have alike : Alike s p := edged_alike line y n false s
  refine ⟨fun last forward => ?_, fun last reverse => ?_, fun a' g₁ held' seg => ?_⟩
  · have crossed : trailOn p (measuredBy t measuring r) = q := on.trans (if_neg fun c => forward c.1)
    have unheld : heldEntry p q = none := by simp [heldEntry, q, last]
    obtain rfl : gl = g' := Option.some.inj (lead.symm.trans (by rw [leadSeg, ← last]; exact next))
    have sensor : working s gl.dst = true := beyond.resolve_left forward
    have rests : Rests s q := rests_step (g := gl) lead (markLike_working sensor) last (.inl (by rw [nodeKind_working sensor]; decide))
    exact h.leaves (follows rfl rfl rfl rfl)
      (accepts.trans (acceptTrail_shut (s := p) ungated found crossed rfl rfl unheld (alike.rests rests)))
  · have crossed := on.trans (if_pos ⟨reverse, last⟩)
    have unheld : heldEntry p { q with progress := .reversing, depth := some ⟨0, travelOf s g'.zone, false⟩ } = none := by
      simp [heldEntry, q, last]
    exact h.leaves (follows rfl rfl rfl rfl)
      (accepts.trans (acceptTrail_shut (s := p) ungated found crossed rfl rfl unheld (rests_reversing rfl)))
  · intro w
    have heldp : heldEntry p q = some a' := (alike.heldEntry q).trans held'
    have behind : r.trailStep + 1 < r.lead.step := heldEntry_behind (s := s) (r := q) (by rw [held']; rfl)
    have crossed : trailOn p (measuredBy t measuring r) = q := on.trans (if_neg fun c => behind.ne c.2)
    have rests : Rests s q := rests_held (g := gl) lead (beyond.imp_right markLike_working) (by rw [held']; rfl)
    have opens := acceptTrail_opens (s := p) (n := n) ungated found crossed rfl heldp seg (alike.rests rests)
    have judged' : judged p q = true ↔ Watched s r := judged_eq_true (s := p) (r := q) awake.2.2
    have after : Follows s.pms r (trailed (some w) q) := follows rfl rfl rfl rfl
    refine ⟨fun fresh => h.leaves after (accepts.trans (opens.1 fun judges => ?_)), fun watched past room => ?_⟩
    · exact fresh.resolve_left fun c => c (judged'.1 judges)
    · have jammed := accepts.trans (opens.2 (judged'.2 watched) past)
      exact h.stays after (Cause.noConfusion) watched room jammed

end Sys2Proof.Machine
end

section
/-! SUPPORT. The REPLY frame, the parts of a good reply taken alone, and the obligation ReportsJudged. -/

namespace Sys2Proof.Machine

/-! ## What a REPLY carries (R157, R194) -/

section Frame

variable {payload : List Byte} {rep : StationReport}

/-- A frame of the right length, CRC and kind is read. -/
theorem replyFrame_reads {k : Nat} (short : payload.length < 256) (parse : parseReply payload = some rep) :
    readLinkFrame (replyFrame k payload) = some rep := by
  have length : (BitVec.ofNat 8 payload.length).toNat = payload.length := toNat_byte short
  exact (if_pos ⟨length, rfl, rfl⟩).trans parse

/-- A report with no part in it. -/
def silent : StationReport := ⟨[], [], none, false, 0, [none, none, none, none]⟩

theorem silent_reads : parseReply [0, 0, 0] = some silent := by decide

theorem edge_reads {ln sheet age : Nat} (trail : Bool) (hl : ln < 8) (hs : sheet < 65536) (ha : age < 256) :
    parseReply ([0x10, 0, 0] ++ u8 ((if trail then 128 else 0) + ln) ++ u16 sheet ++ u8 age) =
      some { silent with edges := [⟨trail, ln, sheet, age⟩] } := by
  have flag : ((if trail then 128 else 0) + ln) / 128 = 1 ↔ trail = true := by cases trail <;> simp <;> omega
  have node : ((if trail then 128 else 0) + ln) % 8 = ln := by cases trail <;> simp <;> omega
  have byte : (BitVec.ofNat 8 ((if trail then 128 else 0) + ln)).toNat = (if trail then 128 else 0) + ln :=
    toNat_byte (by cases trail <;> simp <;> omega)
  simp [u8, u16, parseReply, parseEdges, parseFinals, coverBits, silent, be16_word hs, toNat_byte ha, byte, flag, node]

end Frame

/-! ## The reply taken -/

section Reply

variable {s t : State} {x : Exchange} {rep : StationReport} {payload : List Byte} {lag : Nat}

theorem Polled.room (h : Polled s x) : x.station - 1 < s.xlm.stations.length := by
  obtain ⟨low, high, length⟩ := h.station
  omega

/-- A good reply of an ONLINE station acknowledges its POLL (R156, R157). -/
theorem Polled.answers (h : Polled s x) : acknowledge x (stationAnswers x.station (setExchange none s)) = acknowledged x s := by
  have online : (stationAt (setExchange none s) x.station).link ≠ .lost := by
    rw [show stationAt (setExchange none s) x.station = stationAt s x.station from rfl, h.online]
    decide
  have room : x.station - 1 < (setExchange none s).xlm.stations.length := h.room
  rw [stationAnswers, if_neg online, acknowledge, stationAt_setStation room, setStation_setStation]
  rfl

theorem Polled.station_acknowledged (h : Polled s x) : stationAt (acknowledged x s) x.station =
    { stationAt s x.station with
      miss := 0
      handOffs := x.handOffs.foldl List.erase (stationAt s x.station).handOffs
      cancels := x.cancels.foldl List.erase (stationAt s x.station).cancels } :=
  stationAt_setStation (s := s) h.room

theorem Polled.link (h : Polled s x) : (stationAt (acknowledged x s) x.station).link = .online := by
  rw [h.station_acknowledged]
  exact h.online

theorem Polled.runs (h : Polled s x) (short : payload.length < 256) (parse : parseReply payload = some rep)
    (taken : takeReply x rep lag s = t) :
    exec (.stationReply (replyFrame x.station payload) lag) s = .next (finish t) := by
  obtain ⟨low, high, -⟩ := h.station
  have address : (replyFrame x.station payload).address.toNat = x.station := toNat_byte (by omega)
  have event : exec (.stationReply (replyFrame x.station payload) lag) s =
      .next (takeEvent (takeFrame (replyFrame x.station payload) lag) s) := rfl
  have frame : takeFrame (replyFrame x.station payload) lag s = t := by
    simp only [takeFrame, h.open_, address, if_true, replyFrame_reads short parse, taken]
  rw [event, takeEvent_live h.awake.1, frame]

theorem setStation_same {k : Nat} : setStation k (stationAt s k) s = s := by
  have same : s.xlm.stations.set (k - 1) (stationAt s k) = s.xlm.stations := by
    by_cases room : k - 1 < s.xlm.stations.length
    · simp [stationAt, room]
    · exact List.set_eq_of_length_le (not_lt.1 room)
  rw [setStation, same]

/-- A jam flag that stays down changes nothing (R158). -/
theorem takeJamFlag_idle {k a : Nat} (down : (stationAt t k).jamFlag = false) : takeJamFlag k false a t = t := by
  have same : ({ stationAt t k with jamFlag := false, jamArea := (stationAt t k).jamArea } : StationState) = stationAt t k := by
    rw [← down]
  simp only [takeJamFlag, Bool.false_eq_true, if_false, false_and, same, setStation_same, down, if_true]

theorem takeCovers_none {k : Nat} :
    ((List.range 4).zip [none, none, none, none]).foldl (takeCover k) t = t := rfl

/-- A reply whose one part is an edge report. -/
theorem Polled.takes_report (h : Polled s x) {e : EdgeReport} (taken : takeReport x.station lag (acknowledged x s) e = t)
    (down : (stationAt t x.station).jamFlag = false) : takeReply x { silent with edges := [e] } lag s = t := by
  simp only [takeReply, silent, h.answers, List.foldl_cons, List.foldl_nil, taken, takeJamFlag_idle down, takeCovers_none]

theorem raiseJam_xlm (c : JamCause) (as : List Nat) (s : State) : (raiseJam c as s).xlm = s.xlm := by
  have told (n : Notice) (u : State) : (post n u).xlm = u.xlm := by
    unfold post
    split <;> rfl
  unfold raiseJam
  split
  case h_4 => split <;> rfl
  all_goals simp [firstCause, secondFailure, haltZones, told]

/-- A reply that leaves nothing for the end of its event. -/
theorem Polled.leaves (h : Polled s x) (short : payload.length < 256) (parse : parseReply payload = some rep)
    (taken : takeReply x rep lag s = t) (settled : Settled t) :
    exec (.stationReply (replyFrame x.station payload) lag) s = .next t := by
  rw [h.runs short parse taken, finish_settled settled]

/-- A reply that fails where sheets are driven (R102, R117). -/
theorem Polled.fails (h : Polled s x) (short : payload.length < 256) (parse : parseReply payload = some rep)
    {c : JamCause} {as : List Nat} {u : State} (taken : takeReply x rep lag s = raiseJam c as u) (driven : Driven u) (room : Room 1 u)
    (settled : Settled u) : exec (.stationReply (replyFrame x.station payload) lag) s = .next (failed c as u) := by
  rw [h.runs short parse taken, finish_untouched (by rw [raiseJam_rpq]; exact settled.1), raiseJam_fails driven room settled.2]

theorem Polled.error (h : Polled s x) (room : Room 1 s) (o : StationOccasion) :
    stationNotice x.station o (acknowledged x s) = noticed [.station x.station .online o] (acknowledged x s) := by
  rw [stationNotice, h.link]
  exact post_room _ room

end Reply

/-! ## Edge reports -/

section Report

variable {s : State} {k n age sheet : Nat} {r : Record}

theorem remoteNode_kind {m : MapStore} {ln : Nat} (h : remoteNode m k ln = some n) : nodeKind m n = some .remote := by
  obtain ⟨⟨i, e⟩, found, rfl⟩ := Option.map_eq_some_iff.1 h
  have entry : m.node? i = some e := (mem_definedEntries m.nodes i e).1 (List.mem_of_find?_eq_some found)
  have kind := List.find?_some found
  simp only [Bool.and_eq_true, beq_iff_eq] at kind
  simp [nodeKind, entry, kind.1.1]

theorem beyond_iff {m : MapStore} {path : List Nat} : (path.any fun i => (m.seg? i).any fun g => g.dst == n) = true ↔
    ∃ i ∈ path, ∃ g, m.seg? i = some g ∧ g.dst = n := by
  simp [List.any_eq_true, Option.any_eq_true]

/-- A LEAD report at another node than that of the record's remote window (R89). -/
theorem takeRemoteLead_other (moves : moving s = true) (f : findRec s sheet = some r)
    (h : ¬∃ w, r.leadExp = some w ∧ w.kind = .remote ∧ w.node = n) : takeRemoteLead k n sheet age s =
      if leadBeyond s.pms r n = true then stationNotice k (.errorSheet sheet) s
      else if positioning s = true then raiseUnexpected n s else s := by
  unfold takeRemoteLead
  rw [if_pos moves, f]
  dsimp only
  split
  · rename_i w hw
    exact if_neg fun c => h ⟨w, hw, c⟩
  · rfl

theorem takeRemoteLead_window {w : LeadExp} (moves : moving s = true) (f : findRec s sheet = some r) (window : r.leadExp = some w)
    (h : w.kind = .remote ∧ w.node = n) : takeRemoteLead k n sheet age s = judgeRemote n age r w s := by
  simp [takeRemoteLead, moves, f, window, h]

theorem takeRemoteTrail_known (moves : moving s = true) (f : findRec s sheet = some r) : takeRemoteTrail k n sheet s =
    if r.progress = .moving ∧ r.trailStep < r.lead.step ∧ trailNext s.pms r = some n then settle sheet (crossTrail r s)
    else if trailBeyond s.pms r n = true then s else stationNotice k (.errorSheet sheet) s := by
  simp only [takeRemoteTrail, moves, f, if_true]

theorem judgeRemote_early {w : LeadExp} {early late : Nat} (times : w.times = some (early, late)) (judges : judged s r = true)
    (below : w.elapsed - age < early) : judgeRemote n age r w s =
      raiseSheet .early r.sheet n w.zone (some ((w.elapsed - age : Nat) : Int)) (some (early : Int)) s := by
  unfold judgeRemote
  rw [times]
  exact if_pos ⟨judges, below⟩

/-- A LEAD report that comes in time takes the lead on, behind a trail that waits at a working sensor (R62, R89). -/
theorem judgeRemote_accepts {w : LeadExp} {early late : Nat} {g : SegEntry} (f : findRec s r.sheet = some r)
    (times : w.times = some (early, late)) (accepts : judged s r = true → early ≤ w.elapsed - age)
    (ungated : definedEntries s.pms.gates = []) (sent : NoHandOff s r) (held : (heldEntry s r).isSome = true)
    (next : stepSeg s.pms r (r.lead.step + 1) = some g)
    (ends : nodeKind s.pms g.dst = some .remote ∨ nodeKind s.pms g.dst = some .dest) :
    judgeRemote n age r w s = putRec (onward s 0 [] r) s := by
  have accepted : judgeRemote n age r w s = settle r.sheet (takeStep 0 [] r s) := by
    unfold judgeRemote
    rw [times]
    exact if_neg fun c => absurd (accepts c.1) (not_le.2 c.2)
  rw [accepted, takeStep_behind ungated f sent (heldEntry_behind held).ne]
  exact settle_putRec (rests_held next (.inr (unseen_end ends).2) (heldEntry_onward held)) f rfl

/-- A TRAIL report takes the trail onto the lead's step, which no crossing ends (R64, R91). -/
theorem takeRemoteTrail_crosses {g g' : SegEntry} (moves : moving s = true) (f : findRec s sheet = some r)
    (crosses : r.progress = .moving ∧ r.trailStep < r.lead.step ∧ trailNext s.pms r = some n)
    (last : r.trailStep + 1 = r.lead.step) (bare : r.arrivals = []) (ungated : definedEntries s.pms.gates = [])
    (stands : stepSeg s.pms r r.trailStep = some g) (plain : nodeKind s.pms g.dst ≠ some .transfer)
    (lead : leadSeg s.pms r = some g') (forward : g'.kind ≠ .reverse) (away : markLike s g'.dst = false)
    (rests : nodeKind s.pms g'.dst ≠ some .dest ∨ (stationOfNode s.pms g'.dst).isSome = true) :
    takeRemoteTrail k n sheet s = putRec { r with trailStep := r.trailStep + 1, trailExp := none } s := by
  obtain rfl := findRec_sheet f
  have next : stepSeg s.pms r (r.trailStep + 1) = some g' := by rw [last]; exact lead
  have crossed : trailOn s r = { r with trailStep := r.trailStep + 1, trailExp := none } := by
    rw [trailOn_eq next (.inl ⟨bare, rfl⟩), if_neg fun c => forward c.1, trailSides_plain stands plain, ← bare]
  have unheld : heldEntry s { r with trailStep := r.trailStep + 1, trailExp := none } = none := by simp [heldEntry, last]
  rw [takeRemoteTrail_known moves f, if_pos crosses, crossTrail_shut ungated f crossed rfl rfl unheld]
  exact settle_putRec (rests_step lead away last rests) f rfl

end Report

section

variable {s t : State} {x : Exchange} {trail : Bool} {ln sheet age lag : Nat}

/-- What an edge report does is what its reply does. -/
theorem Polled.reports (h : Polled s x) (down : (stationAt s x.station).jamFlag = false) (hl : ln < 8) (hs : sheet < 65536)
    (ha : age < 256) (taken : takeReport x.station lag (acknowledged x s) ⟨trail, ln, sheet, age⟩ = t) :
    let f := replyFrame x.station ([0x10, 0, 0] ++ u8 ((if trail then 128 else 0) + ln) ++ u16 sheet ++ u8 age)
    (t.xlm.stations = (acknowledged x s).xlm.stations → Settled t → exec (.stationReply f lag) s = .next t) ∧
    (∀ c as u, t = raiseJam c as u → u.xlm.stations = (acknowledged x s).xlm.stations → Driven u → Room 1 u → Settled u →
      exec (.stationReply f lag) s = .next (failed c as u)) := by
  intro f
  have short : ([0x10, 0, 0] ++ u8 ((if trail then 128 else 0) + ln) ++ u16 sheet ++ u8 age).length < 256 := by simp [u8, u16]
  have down' {t : State} (same : t.xlm.stations = (acknowledged x s).xlm.stations) : (stationAt t x.station).jamFlag = false := by
    have : stationAt t x.station = stationAt (acknowledged x s) x.station := by rw [stationAt, same]; rfl
    rw [this, h.station_acknowledged]
    exact down
  have parse := edge_reads trail hl hs ha
  refine ⟨fun same settled => h.leaves short parse (h.takes_report taken (down' same)) settled,
    fun c as u jams same driven room settled => ?_⟩
  have same' : t.xlm.stations = (acknowledged x s).xlm.stations := by rw [jams, raiseJam_xlm, same]
  exact h.fails short parse ((h.takes_report taken (down' same')).trans jams) driven room settled

end

/-- Settles O51: an edge report is taken on the state that its reply's acknowledgement leaves (`Polled.reports`), and each clause is a
branch of what the FLT makes of it. -/
theorem reportsJudged : Obligations.ReportsJudged := by
  intro x trail ln sheet age lag s polled down hl hs ha k u f runs error
  have settled : Settled u := polled.awake.2
  have closed : closeEvent u = u := closeEvent_settled settled.2
  have erred (room : Room 1 s) : stationNotice k (.errorSheet sheet) u = error := polled.error room _
  have reports {t : State} (taken : takeReport k lag u ⟨trail, ln, sheet, age⟩ = t) := polled.reports down hl hs ha taken
  have unknown (none : remoteNode s.pms k ln = none) :
      takeReport k lag u ⟨trail, ln, sheet, age⟩ = stationNotice k (.errorSheet sheet) u := by
    rw [takeReport, closed, show remoteNode u.pms k ln = _ from none]
  refine ⟨fun none room => (reports ((unknown none).trans (erred room))).1 rfl settled, fun n node => ?_⟩
  have taken : takeReport k lag u ⟨trail, ln, sheet, age⟩ =
      if trail = true then takeRemoteTrail k n sheet u else takeRemoteLead k n sheet (min (age + lag) 255) u := by
    rw [takeReport, closed, show remoteNode u.pms k ln = _ from node]
  have keeps {t : State} (same : t.xlm.stations = u.xlm.stations) (settled : Settled t)
      (h : (if trail = true then takeRemoteTrail k n sheet u else takeRemoteLead k n sheet (min (age + lag) 255) u) = t) : runs t :=
    (reports (taken.trans h)).1 same settled
  have jams {c : JamCause} {as : List Nat} (driven : Driven u) (room : Room 1 s)
      (h : (if trail = true then takeRemoteTrail k n sheet u else takeRemoteLead k n sheet (min (age + lag) 255) u) =
        raiseJam c as u) :
      runs (failed c as u) :=
    (reports (taken.trans h)).2 c as u rfl rfl driven room settled
  refine ⟨fun still => keeps rfl settled ?_, fun moves none room => keeps rfl settled ?_, fun r moves found => ?_⟩
  · simp [takeRemoteTrail, takeRemoteLead, show moving u = false from still]
  · simp [takeRemoteTrail, takeRemoteLead, show moving u = true from moves, show findRec u sheet = _ from none, erred room]
  intro passed awaited crosses
  obtain rfl := findRec_sheet found
  have leads (lead : trail = false) : (if trail = true then takeRemoteTrail k n r.sheet u
      else takeRemoteLead k n r.sheet (min (age + lag) 255) u) = takeRemoteLead k n r.sheet (min (age + lag) 255) u :=
    if_neg (by simp [lead])
  have trails (tail : trail = true) : (if trail = true then takeRemoteTrail k n r.sheet u
      else takeRemoteLead k n r.sheet (min (age + lag) 255) u) = takeRemoteTrail k n r.sheet u := if_pos tail
  have other (lead : trail = false) (away : ¬awaited) := (leads lead).trans (takeRemoteLead_other (s := u) moves found away)
  have known (tail : trail = true) := (trails tail).trans (takeRemoteTrail_known (s := u) moves found)
  have beyond : leadBeyond u.pms r n = true ↔ passed r.lead.step := beyond_iff
  have behind : trailBeyond u.pms r n = true ↔ passed r.trailStep := beyond_iff
  refine ⟨fun w early late lead window kind here times => ?_, fun lead away gone room => ?_,
    fun lead away fresh => ⟨fun driven room => ?_, fun halting => ?_⟩,
    fun g g' tail crosses last bare ungated stands ends lead forward plain rests => ?_,
    fun tail idle gone => ?_, fun tail idle fresh room => ?_⟩
  · have window' := (leads lead).trans (takeRemoteLead_window (s := u) moves found window ⟨kind, here⟩)
    have judges : judged u r = true ↔ Watched s r := judged_eq_true (s := u) settled.2
    refine ⟨fun watched early room => jams (watched_driven watched) room ?_,
      fun g accepts ungated progress sent behind held next forward ends => keeps rfl settled ?_⟩
    · exact window'.trans ((judgeRemote_early times (judges.2 watched) early).trans (raiseSheet_eq (s := u) found))
    · have accepted := judgeRemote_accepts (s := u) (n := n) found times (fun j => accepts.resolve_left fun c => c (judges.1 j))
        ungated sent held next ends
      rw [onward_unseen (s := u) next forward (unseen_end ends).1, List.append_nil, ← progress] at accepted
      exact window'.trans accepted
  · exact keeps rfl settled ((other lead away).trans ((if_pos (beyond.2 gone)).trans (erred room)))
  · exact jams driven room
      ((other lead away).trans ((if_neg fun c => fresh (beyond.1 c)).trans (if_pos ((positioning_iff u).2 driven))))
  · have stays : positioning u = false := by simp [positioning, show u.rcv.path = _ from halting]
    exact keeps rfl settled ((other lead away).trans ((if_neg fun c => fresh (beyond.1 c)).trans (if_neg (by simp [stays]))))
  · have remote : nodeKind s.pms g.dst ≠ some .transfer := by rw [ends, remoteNode_kind node]; decide
    exact keeps rfl settled ((trails tail).trans
      (takeRemoteTrail_crosses (s := u) moves found crosses last bare ungated stands remote lead forward plain rests))
  · exact keeps rfl settled ((known tail).trans ((if_neg idle).trans (if_pos (behind.2 gone))))
  · exact keeps rfl settled ((known tail).trans ((if_neg idle).trans ((if_neg fun c => fresh (behind.1 c)).trans (erred room))))

end Sys2Proof.Machine
end

section
/-! SUPPORT. What a departure leaves, the finals, compile states, jam flags and covers of a reply, and the obligation
RepliesCarry. -/

namespace Sys2Proof.Machine

/-! ## A member's set is told (R148) -/

section Member
theorem memberDelivered_eq (r : Record) (s : State) : memberDelivered r s = setSets (deliveredSets r s.xlm.sets) s := by
  unfold memberDelivered deliveredSets changedSet setOf
  cases part : r.setPart with
  | none => rfl
  | some p =>
    dsimp only [Option.bind_some]
    cases found : s.xlm.sets.find? fun e => e.slot == p.slot && e.job == r.job && e.number == p.number with
    | none => rfl
    | some e => cases last : e.lastDelivered <;> simp [putSet, last]

theorem memberLost_eq (r : Record) (s : State) : memberLost r s = setSets (lostSets r s.xlm.sets) s := by
  unfold memberLost lostSets changedSet setOf
  cases part : r.setPart with
  | none => rfl
  | some p =>
    dsimp only [Option.bind_some, Option.any_some]
    cases found : s.xlm.sets.find? fun e => e.slot == p.slot && e.job == r.job && e.number == p.number with
    | none => rfl
    | some e =>
      have closes (b : Bool) : (if p.last = true then false else b) = (b && !p.last) := by cases p.last <;> simp
      have handed : (if r.handOff = true then e.handedOff - 1 else e.handedOff) = e.handedOff - if r.handOff = true then 1 else 0 := by
        split <;> rfl
      dsimp only
      rw [closes, closes, handed]
      by_cases single : e.admitted ≤ 1
      · rw [if_pos (by omega), if_pos single]
        rfl
      · rw [if_neg (by omega), if_neg single]
        rfl

end Member

/-! ## A record leaves as DELIVERED (R71) -/

section Delivered

variable {r : Record} {s : State}

/-- The state that a delivered record leaves: without it, with its notice, its set told and its held disposition dropped (R71, R118,
R148). -/
def deliveredOut (r : Record) (s : State) : State :=
  noticed [.delivered r.sheet r.job r.ordinal (routeDest s.pms r.route)] { s with
    flt := { s.flt with list := s.flt.list.filter fun y => decide (y.sheet ≠ r.sheet) }
    rcv := { s.rcv with held := s.rcv.held.filter fun p => decide (p.1 ≠ r.sheet) }
    xlm := { s.xlm with sets := deliveredSets r s.xlm.sets } }

theorem takeOut_delivered (ungated : definedEntries s.pms.gates = []) (room : Room 1 s) :
    takeOut r .delivered s = deliveredOut r s := by
  have posted : post (finalNotice s.pms r .delivered) (offerFinal s.pms r .delivered (dropRec r.sheet s)) =
      noticed [.delivered r.sheet r.job r.ordinal (routeDest s.pms r.route)] (dropRec r.sheet s) := post_room _ room
  unfold takeOut
  dsimp only
  rw [posted, memberLeaves, memberDelivered_eq]
  refine (rederiveFor_ungated (by exact ungated) r).trans ?_
  rfl

/-- A departure that ends neither RUNNING nor a run-out changes no path state (R71, R116). -/
theorem afterLeaving_keeps {f : Final} (still : s.rcv.path ≠ .runout) (more : s.rcv.path = .running → s.flt.list ≠ []) :
    afterLeaving f s = s := by
  unfold afterLeaving
  split
  · exact if_neg fun c => more ‹_› (List.isEmpty_iff.1 c.2)
  · exact absurd ‹_› still
  · rfl

/-- A final that no clearance ends with (R70, R131). -/
theorem afterFinal_keeps (h : s.rcv.path = .clearing → s.clm.list ≠ [] ∧ r.disp ≠ some .remove) : afterFinal r s = s := by
  unfold afterFinal
  split
  · rename_i path
    obtain ⟨listed, stays⟩ := h path
    rw [if_neg (by simp [removing, stays]), decideResumable_listed listed]
  · rfl

end Delivered

/-! ## The parts of a reply, one at a time (R157, R194) -/

section Reads

theorem final_reads {sheet : Nat} (hs : sheet < 65536) :
    parseReply ([0x01, 0, 0] ++ u16 sheet) = some { silent with finals := [sheet] } := by
  simp [u16, parseReply, parseEdges, parseFinals, coverBits, silent, be16_word hs]

theorem compile_reads {number count : Nat} (ejected : Bool) (hn : number < 65536) (hc : count < 65536) :
    parseReply ([0, if ejected then 0xC0 else 0x80, 0] ++ u16 number ++ u16 count) =
      some { silent with compile := some (number, count, ejected) } := by
  cases ejected <;> simp [u16, parseReply, parseEdges, parseFinals, coverBits, silent, be16_word hn, be16_word hc]

theorem jam_reads {area : Nat} (h : area < 4) : parseReply ([0] ++ u8 (32 + area) ++ [0]) =
    some { silent with jamFlag := true, jamArea := area } := by
  interval_cases area <;> decide

theorem cover_reads {c : Nat} (o : Bool) (h : c < 4) : parseReply ([0, 0] ++ u8 ((if o then 2 else 1) * 4 ^ (3 - c))) =
    some { silent with covers := [none, none, none, none].set c (some o) } := by
  interval_cases c <;> cases o <;> decide

end Reads

section Parts

variable {s t : State} {x : Exchange} {lag : Nat}

theorem Polled.takes_final (h : Polled s x) {sheet : Nat} (taken : takeFinal x.station (acknowledged x s) sheet = t)
    (down : (stationAt t x.station).jamFlag = false) : takeReply x { silent with finals := [sheet] } lag s = t := by
  simp only [takeReply, silent, h.answers, List.foldl_cons, List.foldl_nil, taken, takeJamFlag_idle down, takeCovers_none]

theorem Polled.takes_compile (h : Polled s x) {c : Nat × Nat × Bool} (taken : takeCompile x.station c (acknowledged x s) = t)
    (down : (stationAt t x.station).jamFlag = false) : takeReply x { silent with compile := some c } lag s = t := by
  simp only [takeReply, silent, h.answers, List.foldl_nil, taken, takeJamFlag_idle down, takeCovers_none]

theorem Polled.takes_jam (h : Polled s x) {flag : Bool} {area : Nat}
    (taken : takeJamFlag x.station flag area (acknowledged x s) = t) :
    takeReply x { silent with jamFlag := flag, jamArea := area } lag s = t := by
  simp only [takeReply, silent, h.answers, List.foldl_nil, taken, takeCovers_none]

theorem Polled.takes_cover (h : Polled s x) {c : Nat} (o : Bool) (hc : c < 4) (down : (stationAt s x.station).jamFlag = false)
    (taken : takeCover x.station (acknowledged x s) (c, some o) = t) :
    takeReply x { silent with covers := [none, none, none, none].set c (some o) } lag s = t := by
  have down' : (stationAt (acknowledged x s) x.station).jamFlag = false := by rw [h.station_acknowledged]; exact down
  have only (u : State) : ((List.range 4).zip ([none, none, none, none].set c (some o))).foldl (takeCover x.station) u =
      takeCover x.station u (c, some o) := by interval_cases c <;> rfl
  simp only [takeReply, silent, h.answers, List.foldl_nil, takeJamFlag_idle down', only, taken]

end Parts

/-! ## Their outcomes -/

section Outcomes

variable {s : State} {k : Nat} {r : Record} {q : StationState}

/-- A final takes its record out (R70). -/
theorem takeFinal_delivers (f : findRec s r.sheet = some r) (bound : stationOfNode s.pms (routeDest s.pms r.route) = some k)
    (ungated : definedEntries s.pms.gates = []) (room : Room 1 s) (still : s.rcv.path ≠ .runout)
    (more : s.rcv.path = .running → ∃ y ∈ s.flt.list, y.sheet ≠ r.sheet)
    (clears : s.rcv.path = .clearing → s.clm.list ≠ [] ∧ r.disp ≠ some .remove) :
    takeFinal k s r.sheet = deliveredOut r s := by
  have others : s.rcv.path = .running → (deliveredOut r s).flt.list ≠ [] := fun path => by
    obtain ⟨y, mem, other⟩ := more path
    exact List.ne_nil_of_mem (List.mem_filter.2 ⟨mem, decide_eq_true other⟩)
  unfold takeFinal leave
  rw [f]
  dsimp only
  rw [if_pos bound, takeOut_delivered ungated room, afterLeaving_keeps (s := deliveredOut r s) still others,
    afterFinal_keeps (s := deliveredOut r s) clears]

theorem takeFinal_unknown {sheet : Nat}
    (h : ∀ r, findRec s sheet = some r → stationOfNode s.pms (routeDest s.pms r.route) ≠ some k) :
    takeFinal k s sheet = stationNotice k (.errorSheet sheet) s := by
  unfold takeFinal
  split
  · exact if_neg (h _ ‹_›)
  · rfl

/-- A jam flag that rises or falls, or stays up (R158). -/
theorem takeJamFlag_eq {flag : Bool} {area : Nat} (bank : k - 1 < s.xlm.stations.length) (room : Room 1 s)
    (link : (stationAt s k).link = .online) :
    let held := setStation k { stationAt s k with jamFlag := flag, jamArea := if flag then some area else (stationAt s k).jamArea } s
    let told := noticed (if (stationAt s k).jamFlag = flag then [] else
      [.station k .online (.jam flag (if flag then some area else none))]) held
    takeJamFlag k flag area s = if flag = true ∧ positioning s = true ∧ stationInUse s k = true
      then raiseJam ⟨.station, none, none, none, some (k : Int), some (area : Int), s.sys.now⟩ (stationAreas s.pms k area) told
      else told := by
  intro held told
  have online : (stationAt held k).link = .online := by rw [stationAt_setStation bank]; exact link
  have notice : (if (stationAt s k).jamFlag = flag then held
      else stationNotice k (.jam flag (if flag then some area else none)) held) = told := by
    split
    · rename_i same
      simp [told, noticed, same]
    · rename_i other
      rw [stationNotice, online, post_room _ (show Room 1 held from room)]
      simp [told, other]
  unfold takeJamFlag
  dsimp only
  rw [notice]
  rfl

/-- A compile state of a set of the station (R149). -/
theorem takeCompile_known {number count : Nat} {ejected : Bool} {e : SetEntry} (h : compileMatch s k number = some e) :
    takeCompile k (number, count, ejected) s = if ejected = true then
        if (e.closed && e.lastSeen) = true then dropSet e.slot (putSet { e with compiled := min count e.handedOff } s)
        else stationNotice k (.errorSet number) (putSet { e with compiled := min count e.handedOff } s)
      else putSet { e with compiled := min count e.handedOff } s := by
  simp [takeCompile, h]

theorem takeCompile_unknown {number count : Nat} {ejected : Bool} (h : compileMatch s k number = none) :
    takeCompile k (number, count, ejected) s = stationNotice k (.errorSet number) s := by
  simp [takeCompile, h]

theorem takeCover_same {c : Nat} {o : Bool} (h : (stationAt s k).covers[c]? = some o) : takeCover k s (c, some o) = s := by
  simp [takeCover, h]

theorem takeCover_moves {c : Nat} {o : Bool} (h : (stationAt s k).covers[c]? = some !o) : takeCover k s (c, some o) =
    coverChanged (.station k c) o (setStation k { stationAt s k with covers := (stationAt s k).covers.set c o } s) := by
  simp [takeCover, h]

/-- A cover that no area names, that is opened where nothing can move, or that closes outside a clearance (R101, R125). -/
theorem coverChanged_idle {c : CoverSource} {o : Bool}
    (h : areasOfCover s.pms c = [] ∨ s.rcv.path = .config ∧ s.sfe.calib = none ∨
    (o = false ∧ s.rcv.path ≠ .clearing)) : coverChanged c o s = s := by
  by_cases bare : areasOfCover s.pms c = []
  · exact coverChanged_bare bare
  have away : s.rcv.path ≠ .clearing := by
    rcases h with h | ⟨path, -⟩ | ⟨-, path⟩
    · exact absurd h bare
    · simp [path]
    · exact path
  cases o with
  | false => rw [coverChanged_closes, if_neg bare, coverClosing, if_neg away]
  | true =>
    obtain ⟨path, calm⟩ : s.rcv.path = .config ∧ s.sfe.calib = none := by simpa [bare] using h
    have calib : abortCalibration s = s := by simp [abortCalibration, calm]
    rw [coverChanged_opens bare, if_neg (by simp [path]), calib, raiseCover_jams (by simp [path]), raiseJam_ignored (.inl path)]

/-- An opened cover of a defined area where sheets are driven (R101). -/
theorem coverChanged_jams {c : CoverSource} (named : areasOfCover s.pms c ≠ []) (calm : s.sfe.calib = none) (driven : Driven s) :
    coverChanged c true s = raiseJam ⟨.cover, none, none, none, none, none, s.sys.now⟩ (areasOfCover s.pms c) s := by
  have calib : abortCalibration s = s := by simp [abortCalibration, calm]
  have away (p : PathState) (h : p ≠ .running ∧ p ≠ .runout) : s.rcv.path ≠ p := by
    rcases driven with path | path <;> rw [path]
    exacts [h.1.symm, h.2.symm]
  rw [coverChanged_opens named, if_neg (not_or.2 ⟨away _ (by decide), away _ (by decide)⟩), calib,
    raiseCover_jams (away _ (by decide))]

end Outcomes

section Carried

variable {x : Exchange} {lag : Nat} {s t : State} (h : Polled s x)
include h

theorem Polled.bank : x.station - 1 < (acknowledged x s).xlm.stations.length := by
  simpa [acknowledged] using h.room

theorem Polled.flag : (stationAt (acknowledged x s) x.station).jamFlag = (stationAt s x.station).jamFlag := by
  rw [h.station_acknowledged]

theorem Polled.flag_of {t : State} (same : t.xlm.stations = (acknowledged x s).xlm.stations)
    (down : (stationAt s x.station).jamFlag = false) : (stationAt t x.station).jamFlag = false := by
  rw [stationAt, same]
  exact h.flag.trans down

theorem Polled.told (room : Room 1 s) {u : State} (same : u.xlm.stations = (acknowledged x s).xlm.stations)
    (queue : u.clk.notices = s.clk.notices) {o : StationOccasion} :
    stationNotice x.station o u = noticed [.station x.station .online o] u := by
  have link : (stationAt u x.station).link = .online := by rw [stationAt, same]; exact h.link
  rw [stationNotice, link]
  exact post_room _ (by rw [Room, queue]; exact room)

theorem Polled.final (down : (stationAt s x.station).jamFlag = false) {sheet : Nat} (hs : sheet < 65536)
    (taken : takeFinal x.station (acknowledged x s) sheet = t) (same : t.xlm.stations = (acknowledged x s).xlm.stations)
    (settled : Settled t) :
    exec (.stationReply (replyFrame x.station ([0x01, 0, 0] ++ u16 sheet)) lag) s = .next t :=
  h.leaves (by simp [u16]) (final_reads hs) (h.takes_final taken (h.flag_of same down)) settled

theorem Polled.compile (down : (stationAt s x.station).jamFlag = false) {number count : Nat} {ejected : Bool} (hn : number < 65536)
    (hc : count < 65536) (taken : takeCompile x.station (number, count, ejected) (acknowledged x s) = t)
    (same : t.xlm.stations = (acknowledged x s).xlm.stations) (settled : Settled t) :
    exec (.stationReply (replyFrame x.station ([0, if ejected then 0xC0 else 0x80, 0] ++ u16 number ++ u16 count)) lag) s = .next t :=
  h.leaves (by simp [u16]) (compile_reads ejected hn hc) (h.takes_compile taken (h.flag_of same down)) settled

end Carried

/-- Settles O52: each part of a reply, alone in it, is taken on the state that the acknowledgement leaves (`Polled.leaves`,
`Polled.fails`). -/
theorem repliesCarry : Obligations.RepliesCarry := by
  intro x lag s polled k u q runs
  have settled : Settled u := polled.awake.2
  have erred (o : StationOccasion) (room : Room 1 s) := polled.error room o
  refine ⟨fun down => ⟨fun sheet hs => ⟨fun room unknown => ?_, fun r found bound ungated still more clears room => ?_⟩,
    fun number count ejected hn hc => ?_, fun c o hc => ?_⟩, fun area ha => ?_, fun up room => ?_⟩
  · exact polled.final down hs ((takeFinal_unknown (s := u) unknown).trans (erred _ room)) rfl settled
  · obtain rfl := findRec_sheet found
    exact polled.final down hs (takeFinal_delivers (s := u) found bound ungated room still more clears) rfl settled
  · intro payload found error
    have runs' {t : State} (same : t.xlm.stations = u.xlm.stations) (settled : Settled t)
      (taken : takeCompile k (number, count, ejected) u = t) : runs payload t := polled.compile down hn hc taken same settled
    refine ⟨fun none room => runs' rfl settled ?_, fun e some => ?_⟩
    · exact (takeCompile_unknown (s := u) none).trans (erred _ room)
    · intro sets kept
      have known := takeCompile_known (s := u) (count := count) (ejected := ejected) some
      refine ⟨fun goes => runs' rfl settled (known.trans (if_neg (by simp [goes]))),
        fun done closed last => ?_, fun done open_ room => ?_⟩
      · exact runs' rfl settled (known.trans ((if_pos done).trans (if_pos (by simp [closed, last]))))
      · have refused : ¬(e.closed && e.lastSeen) = true := by rcases open_ with c | c <;> simp [c]
        exact runs' rfl settled (known.trans ((if_pos done).trans ((if_neg refused).trans (polled.told (u := kept) room rfl rfl))))
  · intro payload held
    have short : payload.length < 256 := by simp [payload, u8]
    refine ⟨fun same => polled.leaves short (cover_reads o hc) (polled.takes_cover o hc down (takeCover_same same)) settled,
      fun moves => ?_⟩
    have taken {t : State} (h : coverChanged (.station k c) o held = t) :
        takeReply x { silent with covers := [none, none, none, none].set c (some o) } lag s = t :=
      polled.takes_cover o hc down ((takeCover_moves moves).trans h)
    refine ⟨fun idle => polled.leaves short (cover_reads o hc) (taken (coverChanged_idle (s := held) idle)) settled,
      fun named opens calm driven room => ?_⟩
    subst opens
    exact polled.fails short (cover_reads true hc) (taken (coverChanged_jams (s := held) named calm driven)) driven room settled
  · intro held told
    have short : ([0] ++ u8 (32 + area) ++ [0] : List Byte).length < 256 := by simp [u8]
    have rises (room : Room 1 s) : takeJamFlag k true area u = if true = true ∧ positioning u = true ∧ stationInUse u k = true
        then raiseJam ⟨.station, none, none, none, some (k : Int), some (area : Int), s.sys.now⟩ (stationAreas s.pms k area) told
        else told := by
      have eq := takeJamFlag_eq (s := u) (flag := true) (area := area) polled.bank room polled.link
      rwa [polled.flag] at eq
    have settled : Settled told := settled
    have use : stationInUse u k = stationInUse s k := rfl
    refine ⟨fun idle room => ?_, fun driven inUse room => ?_⟩
    · have calm : ¬(true = true ∧ positioning u = true ∧ stationInUse u k = true) := by
        rintro ⟨-, moves, used⟩
        rcases idle with idle | idle
        · exact idle ((positioning_iff u).1 moves)
        · simp [use, idle] at used
      exact polled.leaves short (jam_reads ha) (polled.takes_jam ((rises room).trans (if_neg calm))) settled
    · have jams := (rises (Nat.le_of_succ_le room)).trans (if_pos ⟨rfl, (positioning_iff u).2 driven, use.trans inUse⟩)
      have more : Room 1 told := by
        have : s.clk.notices.length + 2 ≤ 32 := room
        show (s.clk.notices ++ _).length + 1 ≤ 32
        split <;> simp <;> omega
      exact polled.fails short (jam_reads ha) (polled.takes_jam jams) driven more settled
  · have falls := takeJamFlag_eq (s := u) (flag := false) (area := 0) polled.bank room polled.link
    rw [polled.flag, up, if_neg (by decide), if_neg (by decide)] at falls
    exact polled.leaves (by decide) silent_reads (polled.takes_jam (flag := false) (area := 0) falls) settled

end Sys2Proof.Machine
end

section
/-! SUPPORT. The travel increment of a zone (R59, R60, R63, R64, R78, R82), and the obligation MarksCrossed. -/

namespace Sys2Proof.Machine

/-! ## The counted edge -/

section Increment

variable {s t u : State} {z n : Nat} {e : ZoneEntry} {fw : Bool} {r q : Record} {g : SegEntry}

/-- On a path without gates a counted edge is a travel increment of its zone, and the end of its event (R40, R59). -/
theorem encoderEdge_takes (w : Awake s) (room : z < s.zdu.zones.length) (zone : s.pms.zone? z = some e)
    (ungated : definedEntries s.pms.gates = []) (taken : takeIncrement z (counted z e fw s) = t) :
    exec (.encoderEdge z fw) s = .next (finish t) := by
  have turned : turnPhase z (if fw then 1 else 3) s =
      setZone z { zoneAt s z with phase := ((zoneAt s z).phase + if fw then 1 else 3) % 4 } s := rfl
  have counts : countEdge z e.pitch fw (turnPhase z (if fw then 1 else 3) s) = guardEdges z t := by
    rw [turned, countEdge, zoneAt_setZone room, setZone_setZone]
    exact congrArg (guardEdges z) taken
  have gates : definedEntries t.pms.gates = [] := by rw [← taken, (takeIncrement_ordinary z _).pms]; exact ungated
  have event : exec (.encoderEdge z fw) s = .next (takeEvent _ (turnPhase z (if fw then 1 else 3) s)) := rfl
  have live : (turnPhase z (if fw then 1 else 3) s).sys.live = true := w.1
  have zone' : (turnPhase z (if fw then 1 else 3) s).pms.zone? z = some e := zone
  rw [event, takeEvent_live live, zone']
  dsimp only
  rw [counts, guardEdges_ungated gates]

theorem foldl_fixed {α β : Type} {f : β → α → β} {l : List α} {b : β} (h : ∀ a ∈ l, f b a = b) : l.foldl f b = b := by
  induction l with
  | nil => rfl
  | cons a l ih =>
    obtain ⟨here, rest⟩ := List.forall_mem_cons.1 h
    rw [List.foldl_cons, here, ih rest]

/-! ## One record at an increment -/

/-- A record whose lead stands on the zone is carried, and crosses what its place calls for (R60, R63, R64). -/
theorem moveRecord_moves (moves : moving s = true) (f : findRec s n = some r) (progress : r.progress = .moving)
    (lead : leadSeg s.pms r = some g) (here : g.zone = z) (ungated : definedEntries s.pms.gates = []) :
    moveRecord z s n = settle n (putRec (carried s z r) s) := by
  have stands : moving s = true ∧ r.progress ≠ .announced ∧ (leadSeg s.pms r).any (fun g => g.zone == z) = true := by
    simp [moves, progress, lead, here]
  unfold moveRecord
  rw [f]
  dsimp only
  rw [if_pos stands, if_neg (by rw [progress]; decide), guardMark_ungated (s := putRec (carried s z r) s) ungated]

/-- A record in a pocket of the zone is carried, and its depth judged (R66, R68). -/
theorem moveRecord_reverses (moves : moving s = true) (f : findRec s n = some r) (progress : r.progress = .reversing)
    (lead : leadSeg s.pms r = some g) (here : g.zone = z) :
    moveRecord z s n = judgeDepth (carried s z r) (putRec (carried s z r) s) := by
  have stands : moving s = true ∧ r.progress ≠ .announced ∧ (leadSeg s.pms r).any (fun g => g.zone == z) = true := by
    simp [moves, progress, lead, here]
  unfold moveRecord
  rw [f]
  dsimp only
  rw [if_pos stands, if_pos progress]

theorem moveRecord_away (h : ∀ r, findRec s n = some r → moving s = true → ∀ g, leadSeg s.pms r = some g → g.zone ≠ z) :
    moveRecord z s n = s := by
  unfold moveRecord
  split
  · rename_i r f
    refine if_neg ?_
    rintro ⟨moves, -, stands⟩
    obtain ⟨g, lead, here⟩ := (Option.any_eq_true _ _).1 stands
    exact h r f moves g lead (eq_of_beq here)
  · rfl

/-- Windows of the zone that are within their bounds, and windows elsewhere, stand (R78, R82). -/
theorem judgeWindows_keeps (f : findRec s n = some r)
    (lead : ∀ w, r.leadExp = some w → w.kind = .travel → w.zone = z → leadRun s w ≤ w.hi)
    (trail : ∀ w, r.trailExp = some w → w.zone ≠ z) : judgeWindows z s n = s := by
  have late : judgeLate z r s = s := by
    unfold judgeLate
    split
    · rename_i w hw
      exact if_neg fun c => absurd (lead w hw c.1 c.2.1) (not_le.2 c.2.2.2)
    · rfl
  have away : ¬r.trailExp.any (fun w => w.zone == z) = true := by
    rw [Option.any_eq_true]
    rintro ⟨w, hw, here⟩
    exact trail w hw (eq_of_beq here)
  unfold judgeWindows withRec
  simp only [f, late, if_neg away]

/-! ## A record alone -/

theorem putRec_only (only : s.flt.list = [r]) (same : q.sheet = r.sheet) : putRec q s = setList [q] s := by
  simp [putRec, only, same]

theorem findRec_only (only : s.flt.list = [r]) : findRec s r.sheet = some r := by
  simp [findRec, only]

/-- An increment that leaves the one record of the list with its windows within their bounds (R60, R78). -/
theorem takeIncrement_only (moves : moving u = true) (only : u.flt.list = [r]) (moved : moveRecord z u r.sheet = t)
    (left : t.flt.list = [q])
    (lead : ∀ w, q.leadExp = some w → w.kind = .travel → w.zone = z → leadRun t w ≤ w.hi)
    (trail : ∀ w, q.trailExp = some w → w.zone ≠ z) : takeIncrement z u = t := by
  have sheets : sheetsOf u = [r.sheet] := by simp [sheetsOf, only]
  have sheets' : sheetsOf t = [q.sheet] := by simp [sheetsOf, left]
  unfold takeIncrement
  rw [if_pos moves, sheets]
  dsimp only [List.foldl_cons, List.foldl_nil]
  rw [moved, sheets']
  exact judgeWindows_keeps (findRec_only left) lead trail

end Increment

/-! ## Crossings by the mark rule -/

section Crossing

variable {s t : State} {n x : Nat} {r q : Record}

theorem crossTrails_stays {k : Nat} (f : findRec s n = some r) (trail : trailMark s r = false) (stays : atDestination s r = false) :
    crossTrails n k s = s := by
  cases k with
  | zero => rfl
  | succ k => simp [crossTrails, f, trail, stays]

/-- A place that calls for no crossing. -/
theorem settle_stays (f : findRec s n = some r) (lead : markExcess s r = none) (trail : trailMark s r = false)
    (stays : atDestination s r = false) : settle n s = s := by
  rw [settle, crossMarks_rests f lead, crossTrails_stays f trail stays, ite_self]

theorem crossMarks_mark (k : Nat) (f : findRec s n = some r) (excess : markExcess s r = some x)
    (stepped : takeStep x [] (setSide s.pms r.lead.step .imaging r) (putRec (setSide s.pms r.lead.step .imaging r) s) = t) :
    crossMarks n (k + 1) s = crossMarks n k t := by
  simp only [crossMarks, f, excess, stepped]

theorem crossTrails_node (k : Nat) (f : findRec s n = some r) (trail : trailMark s r = true) (crossed : crossTrail r s = t) :
    crossTrails n (k + 1) s = crossTrails n k t := by
  simp only [crossTrails, f, trail, if_true, crossed]

/-- The lead crosses one mark, with the excess of its offset (R63). -/
theorem settle_marks (moves : moving s = true) (f : findRec s n = some r) (excess : markExcess s r = some x)
    (stepped : takeStep x [] (setSide s.pms r.lead.step .imaging r) (putRec (setSide s.pms r.lead.step .imaging r) s) = t)
    (left : findRec t n = some q) (rests : Rests t q) : settle n s = t := by
  have crossed : crossMarks n 40 s = crossMarks n 39 t := crossMarks_mark 39 f excess stepped
  rw [settle, if_pos moves, crossed, crossMarks_rests left rests.lead, crossTrails_rests left rests]

/-- The trail crosses one node (R64). -/
theorem settle_trails (moves : moving s = true) (f : findRec s n = some r) (lead : markExcess s r = none)
    (trail : trailMark s r = true) (crossed : crossTrail r s = t) (left : findRec t n = some q) (rests : Rests t q) : settle n s = t := by
  have crosses : crossTrails n 40 s = crossTrails n 39 t := crossTrails_node 39 f trail crossed
  rw [settle, if_pos moves, crossMarks_rests f lead, crosses, crossTrails_rests left rests]

theorem leadPast_next {m : MapStore} (h : r.trailStep + 1 = r.lead.step) : leadPast m r = r.lead.offset := by
  simp [leadPast, spanLength, h]

end Crossing

section Run

variable {s : State} {r : Record} {g : SegEntry}

theorem travelDiff_lt (a b : Travel) : travelDiff a b < 2 ^ 31 := by
  have := BitVec.toInt_lt (x := a - b)
  simpa [travelDiff] using this

/-- A travel window opened `x` behind has run `x`. -/
theorem leadRun_windowOn {x : Nat} (h : x < 2 ^ 31) : leadRun s (windowOn s r g x) = x := by
  have back (t : Travel) : t - (t - BitVec.ofNat 32 x) = BitVec.ofNat 32 x := by simp
  have small : x % 2 ^ 32 = x := Nat.mod_eq_of_lt (by omega)
  simp only [leadRun, windowOn, travelDiff, back]
  rw [BitVec.toInt_eq_toNat_cond, BitVec.toNat_ofNat, small, if_pos (by omega)]

theorem carried_plain {z : Nat} (h : r.depth = none) :
    carried s z r = { r with lead := { r.lead with offset := travelDiff (travelOf s z) r.lead.ref } } := by
  rw [carried, h, Option.map_none, ← h]

end Run

/-! ## A lead or a trail crosses one mark -/

section Mark

variable {s : State} {r r₀ : Record} {g g' : SegEntry}

theorem markLike_away {n : Nat} (h : markLike s n = true) : working s n = false ∧ nodeKind s.pms n ≠ some .dest :=
  ⟨working_markLike h, fun dest => by simp [(unseen_end (.inr dest)).2] at h⟩

theorem openTrail_unheld (h : heldEntry s r = none) : openTrail s r = none := by
  simp [openTrail, h]

theorem sideAfter_at {m : MapStore} {i nth : Nat} {v : Imaging} {o : Option Imaging} (h : stepSeg m r i = some g) :
    sideAfter m r i nth v o = if nodeKind m g.dst = some .transfer ∧ r.purgeJoin = none ∧
      transferCount m ((pathOf m r).take i) = nth then o.map fun _ => v else o := by
  simp [sideAfter, h]

theorem markExcess_past (lead : leadSeg s.pms r = some g) (progress : r.progress = .moving) (forward : g.kind ≠ .reverse)
    (more : r.lead.step < (pathOf s.pms r).length) (mark : markLike s g.dst = true)
    (reached : ((g.len * 100 : Nat) : Int) ≤ r.lead.offset) : markExcess s r = some (r.lead.offset - (g.len * 100 : Nat)).toNat := by
  unfold markExcess
  rw [lead]
  exact if_pos ⟨progress, forward, more, mark, reached⟩

theorem markExcess_short (lead : leadSeg s.pms r = some g) (short : r.lead.offset < (g.len * 100 : Nat)) : markExcess s r = none := by
  unfold markExcess
  rw [lead]
  exact if_neg fun c => absurd c.2.2.2.2 (not_le.2 short)

/-- A trail less than a sheet length behind the lead crosses nothing by the mark rule (R64). -/
theorem trailMark_short (behind : r.trailStep + 1 = r.lead.step) (short : r.lead.offset < (lengthOf r * 100 : Nat)) :
    trailMark s r = false := by
  simp only [trailMark, leadPast_next behind, decide_eq_false (not_le.2 short), Bool.and_false]

theorem trailMark_past (progress : r.progress = .moving) (behind : r.trailStep + 1 = r.lead.step) (unheld : heldEntry s r = none)
    (past : ((lengthOf r * 100 : Nat) : Int) ≤ r.lead.offset) : trailMark s r = true := by
  have before : r.trailStep < r.lead.step := by omega
  simp only [trailMark, leadPast_next behind, decide_eq_true past]
  simp [progress, before, unheld]

/-- The trail's next node is a mark behind a lead on its way to a working sensor: a place short of the sheet's length calls for no
crossing. -/
theorem rests_short (lead : leadSeg s.pms r = some g) (seen : working s g.dst = true) (behind : r.trailStep + 1 = r.lead.step)
    (short : r.lead.offset < (lengthOf r * 100 : Nat)) : Rests s r where
  lead := markExcess_none lead (.inr (markLike_working seen))
  trail := trailMark_short behind short
  stays := fun _ same => by omega

/-- The record of a lead that has crossed its mark onto a step to a working sensor (R63, R65). -/
def pastMark (s : State) (x : Nat) (r : Record) : Record := trailed none (onward s x [] (setSide s.pms r.lead.step .imaging r))

theorem pastMark_eq {x : Nat} (lead : leadSeg s.pms r = some g) (progress : r.progress = .moving) (closed : r.trailExp = none)
    (next : stepSeg s.pms r (r.lead.step + 1) = some g') (forward : g'.kind ≠ .reverse) (seen : working s g'.dst = true) :
    pastMark s x r = { r with
      lead := ⟨r.lead.step + 1, travelOf s g'.zone - BitVec.ofNat 32 x, x⟩
      leadExp := some (windowOn s r g' x)
      sideA := if nodeKind s.pms g.dst = some .transfer ∧ r.purgeJoin = none ∧
        transferCount s.pms ((pathOf s.pms r).take r.lead.step) = 1 then r.sideA.map fun _ => .imaging else r.sideA
      sideB := if nodeKind s.pms g.dst = some .transfer ∧ r.purgeJoin = none ∧
        transferCount s.pms ((pathOf s.pms r).take r.lead.step) = 2 then r.sideB.map fun _ => .imaging else r.sideB } := by
  rw [pastMark, setSide_eq, onward_sensor (by exact next) forward seen, sideAfter_at lead, sideAfter_at lead, List.append_nil, trailed,
    ← progress, ← closed]
  rfl

/-- A lead at its mark crosses it, and no other node with what it has left (R63, R64). -/
theorem settle_pastMark (moves : moving s = true) (ungated : definedEntries s.pms.gates = []) (f : findRec s r.sheet = some r)
    (lead : leadSeg s.pms r = some g) (progress : r.progress = .moving) (closed : r.trailExp = none) (forward : g.kind ≠ .reverse)
    (more : r.lead.step < (pathOf s.pms r).length)
    (mark : markLike s g.dst = true) (same : r.trailStep = r.lead.step) (reached : ((g.len * 100 : Nat) : Int) ≤ r.lead.offset)
    (next : stepSeg s.pms r (r.lead.step + 1) = some g') (source : g'.src = g.dst) (forward' : g'.kind ≠ .reverse)
    (seen : working s g'.dst = true) (sent : NoHandOff s r)
    (short : (r.lead.offset - (g.len * 100 : Nat)).toNat < lengthOf r * 100) :
    settle r.sheet s = putRec (pastMark s (r.lead.offset - (g.len * 100 : Nat)).toNat r) s := by
  have excess := markExcess_past lead progress forward more mark reached
  have is := pastMark_eq (x := (r.lead.offset - (g.len * 100 : Nat)).toNat) lead progress closed next forward' seen
  have blind : working s g'.src = false := source ▸ (markLike_away mark).1
  let q : Record := { r with
    sideA := sideAfter s.pms r r.lead.step 1 .imaging r.sideA
    sideB := sideAfter s.pms r r.lead.step 2 .imaging r.sideB }
  have sides : setSide s.pms r.lead.step .imaging r = q := setSide_eq ..
  have trail : stepSeg s.pms r (r.trailStep + 1) = some g' := by rw [same]; exact next
  have stepped : takeStep (r.lead.offset - (g.len * 100 : Nat)).toNat [] (setSide s.pms r.lead.step .imaging r)
      (putRec (setSide s.pms r.lead.step .imaging r) s) = putRec (pastMark s (r.lead.offset - (g.len * 100 : Nat)).toNat r) s := by
    rw [pastMark, sides]
    have step := takeStep_leaves (s := putRec q s) (r := q) (x := (r.lead.offset - (g.len * 100 : Nat)).toNat) (arr := []) (w := none)
      ungated (findRec_putRec f rfl) sent same (openTrail_unheld (heldEntry_unseen trail blind)) (by simp)
    exact step.trans (putRec_putRec s rfl)
  have rests : Rests s (pastMark s (r.lead.offset - (g.len * 100 : Nat)).toNat r) := by
    rw [is]
    exact rests_short (g := g') next seen (by exact congrArg (· + 1) same) (by exact Int.ofNat_lt.2 short)
  exact settle_marks moves f excess stepped (findRec_putRec f (by rw [is])) ⟨rests.lead, rests.trail, rests.stays⟩

/-- The record of a trail that has crossed its mark at the end of segment `g`; no side changes as it leaves a pocket (R64, R65). -/
def doneMark (m : MapStore) (g : SegEntry) (r : Record) : Record := { r with
  trailStep := r.trailStep + 1
  sideA := if g.kind = .reverse then r.sideA else if nodeKind m g.dst = some .transfer ∧ r.purgeJoin = none ∧
    transferCount m ((pathOf m r).take r.trailStep) = 1 then r.sideA.map fun _ => .done else r.sideA
  sideB := if g.kind = .reverse then r.sideB else if nodeKind m g.dst = some .transfer ∧ r.purgeJoin = none ∧
    transferCount m ((pathOf m r).take r.trailStep) = 2 then r.sideB.map fun _ => .done else r.sideB }

theorem trailSides_eq {m : MapStore} (stands : stepSeg m r r.trailStep = some g) :
    { trailSides m r with trailStep := r.trailStep + 1 } = doneMark m g r := by
  unfold trailSides doneMark
  rw [stands, Option.any_some]
  by_cases back : g.kind = .reverse
  · rw [if_pos (by simp [back]), if_pos back, if_pos back]
  · rw [if_neg (by simp [back]), if_neg back, if_neg back, setSide_eq, sideAfter_at stands, sideAfter_at stands]

/-- A trail a sheet length behind its lead crosses its mark onto the lead's step, to a working sensor (R64, R65). -/
theorem settle_doneMark (moves : moving s = true) (ungated : definedEntries s.pms.gates = [])
    (f : findRec s r.sheet = some r) (stands : stepSeg s.pms r r.trailStep = some g) (lead : leadSeg s.pms r = some g')
    (progress : r.progress = .moving) (closed : r.trailExp = none) (forward : g'.kind ≠ .reverse) (seen : working s g'.dst = true)
    (bare : r.arrivals = []) (behind : r.trailStep + 1 = r.lead.step) (unheld : heldEntry s r = none)
    (past : ((lengthOf r * 100 : Nat) : Int) ≤ r.lead.offset) : settle r.sheet s = putRec (doneMark s.pms g r) s := by
  have next : stepSeg s.pms r (r.trailStep + 1) = some g' := by rw [behind]; exact lead
  have crossed : trailOn s r = doneMark s.pms g r := by
    have shape : { trailSides s.pms r with trailExp := none, trailStep := r.trailStep + 1, arrivals := [] } =
        { doneMark s.pms g r with trailExp := none, arrivals := [] } := by
      rw [← trailSides_eq stands]
    rw [trailOn_eq next (.inl ⟨bare, rfl⟩), if_neg fun c => forward c.1, shape, ← bare, ← closed]
    rfl
  have ends : (doneMark s.pms g r).trailStep = (doneMark s.pms g r).lead.step := behind
  have unheld' : heldEntry s (doneMark s.pms g r) = none := by simp [heldEntry, ends]
  have rests : Rests s (doneMark s.pms g r) :=
    rests_step (g := g') lead (markLike_working seen) ends (.inl (by rw [nodeKind_working seen]; decide))
  exact settle_trails moves f (markExcess_none lead (.inr (markLike_working seen))) (trailMark_past progress behind unheld past)
    (crossTrail_shut ungated f crossed rfl closed unheld') (findRec_putRec f rfl) ⟨rests.lead, rests.trail, rests.stays⟩

end Mark

section

variable {s : State} {z : Nat} {e : ZoneEntry} {r q : Record} {g : SegEntry} {fw : Bool}

/-- An increment that leaves its record alone in the list, its lead window within its bound. -/
theorem encoderEdge_keeps (awake : Awake s) (carries : Carries s z e r g)
    (moved : moveRecord z (counted z e fw s) r.sheet = setList [q] (counted z e fw s))
    (within : ∀ w, q.leadExp = some w → w.kind = .travel → w.zone = z → leadRun (counted z e fw s) w ≤ w.hi)
    (shut : q.trailExp = none) : exec (.encoderEdge z fw) s = .next (setList [q] (counted z e fw s)) := by
  have taken := takeIncrement_only (u := counted z e fw s) (q := q) carries.moves carries.only moved rfl within (by simp [shut])
  have settled : Settled (setList [q] (counted z e fw s)) := awake.2
  rw [encoderEdge_takes awake carries.room carries.zone carries.gates taken, finish_settled settled]

end

/-- Settles O40: the lead's crossing is `settle_pastMark`, the trail's `settle_doneMark`; short of them the record rests. -/
theorem marksCrossed : Obligations.MarksCrossed := by
  intro z fw e r g s awake carries progress plain bare closed forward u off c side
  have ⟨room, zone, moves, gates, only, lead, here⟩ := carries
  have alone : u.flt.list = [r] := only
  let v := setList [c] u
  have put : putRec (carried u z r) u = v := by rw [carried_plain plain]; exact putRec_only alone rfl
  have found : findRec v r.sheet = some c := findRec_only (r := c) rfl
  have moved : moveRecord z u r.sheet = settle r.sheet v := by
    rw [moveRecord_moves (s := u) moves (findRec_only alone) progress lead here gates, put]
  have alike : Alike s v := .of_sfe rfl rfl
  have runs {q : Record} (settled : settle r.sheet v = setList [q] u)
      (within : ∀ w, q.leadExp = some w → w.kind = .travel → w.zone = z → leadRun u w ≤ w.hi) (shut : q.trailExp = none) :
      exec (.encoderEdge z fw) s = .next (setList [q] u) := encoderEdge_keeps awake carries (moved.trans settled) within shut
  have one {q : Record} (same : q.sheet = r.sheet) : putRec q v = setList [q] u := putRec_only (s := v) (r := c) rfl same
  have awaited {w : LeadExp} (window : r.leadExp = some w) (kind : w.kind = .travel) (zoned : w.zone = z)
      (within : travelDiff (travelOf u z) w.ref ≤ w.hi) (w' : LeadExp) (window' : r.leadExp = some w') :
      w'.kind = .travel → w'.zone = z → leadRun u w' ≤ w'.hi := by
    obtain rfl : w = w' := Option.some.inj (window.symm.trans window')
    intro _ _
    rw [leadRun, kind]
    exact zoned ▸ within
  refine ⟨fun same unwatched mark more => ⟨fun short => ?_, fun g' reached next source forward' seen sent => ?_⟩,
    fun gt w behind unheld stands seen window kind zoned within => ⟨fun short => ?_, fun long => ?_⟩⟩
  · have rests : Rests v c :=
      { lead := markExcess_short (s := v) (r := c) lead short
        trail := by simp [trailMark, c, same]
        stays := fun _ _ h lead' dest => by
          obtain rfl : g = h := Option.some.inj (lead.symm.trans lead')
          exact absurd dest (markLike_away mark).2 }
    exact runs (settle_rests found rests) (by simp [c, unwatched]) closed
  · intro past tiny within
    have crosses := settle_pastMark (s := v) (r := c) moves gates found lead progress closed forward more
      ((alike.markLike g.dst).trans mark) same reached next source forward' ((alike.working g'.dst).trans seen) sent tiny
    have is := pastMark_eq (s := v) (x := past) (r := c) lead progress closed next forward' ((alike.working g'.dst).trans seen)
    have small : past < 2 ^ 31 := by have := travelDiff_lt (travelOf u z) r.lead.ref; omega
    refine runs ((crosses.trans (congrArg (putRec · v) is)).trans (one rfl)) (fun w window _ _ => ?_) closed
    obtain rfl : windowOn u r g' past = w := Option.some.inj window
    rw [leadRun_windowOn small]
    exact_mod_cast within
  · have rests : Rests v c := rests_short (s := v) (r := c) lead ((alike.working g.dst).trans seen) behind short
    exact runs (settle_rests found rests) (awaited window kind zoned within) closed
  · have crosses := settle_doneMark (s := v) (r := c) moves gates found stands lead progress closed forward
      ((alike.working g.dst).trans seen) bare behind ((alike.heldEntry c).trans unheld) long
    exact runs (crosses.trans (one rfl)) (awaited window kind zoned within) closed

end Sys2Proof.Machine
end

section
/-! SUPPORT. The switchback (R66 to R68), and the obligation SwitchbackTurns. -/

namespace Sys2Proof.Machine

/-! ## The depth judged (R68) -/

section Depth

variable {s : State} {r : Record} {g : SegEntry} {d : Depth}

theorem raiseReversal_eq (f : findRec s r.sheet = some r) (D b : Int) : raiseReversal r g D b s =
    raiseJam ⟨.reversal, some r.sheet, some g.src, some g.zone, some D, some b, s.sys.now⟩
      (unionAreas (bodyAreas s.pms r) (nodeAreas s.pms g.src)) s := raiseSheet_eq f

theorem judgeDepth_far (depth : r.depth = some d) (lead : leadSeg s.pms r = some g) (judges : judged s r = true)
    (far : (((g.len + g.late) * 100 : Nat) : Int) < d.value) :
    judgeDepth r s = raiseReversal r g d.value (((g.len + g.late) * 100 : Nat) : Int) s := by
  simp only [judgeDepth, depth, lead]
  exact if_pos ⟨judges, far⟩

/-- Below the upper bound a return by the mark rule is judged when the depth comes to 0. -/
theorem judgeDepth_mark (depth : r.depth = some d) (lead : leadSeg s.pms r = some g)
    (near : judged s r = true → d.value ≤ (((g.len + g.late) * 100 : Nat) : Int))
    (takes : markLike s g.src = true ∧ d.refused = false) :
    judgeDepth r s = if d.value ≤ 0 then takeReturn r g d.value s else s := by
  simp only [judgeDepth, depth, lead]
  rw [if_neg fun c => absurd (near c.1) (not_le.2 c.2), if_pos takes]

/-- Below the upper bound the lower one is judged where no return by the mark rule is left. -/
theorem judgeDepth_other (depth : r.depth = some d) (lead : leadSeg s.pms r = some g)
    (near : judged s r = true → d.value ≤ (((g.len + g.late) * 100 : Nat) : Int))
    (takes : ¬(markLike s g.src = true ∧ d.refused = false)) :
    judgeDepth r s = if judged s r = true ∧ d.value < -((g.late * 100 : Nat) : Int)
      then raiseReversal r g d.value (-((g.late * 100 : Nat) : Int)) s else s := by
  simp only [judgeDepth, depth, lead]
  rw [if_neg fun c => absurd (near c.1) (not_le.2 c.2), if_neg takes]

theorem takeReturn_low {D : Int} (judges : judged s r = true) (low : D < -((g.late * 100 : Nat) : Int)) : takeReturn r g D s =
    raiseReversal r g D (-((g.late * 100 : Nat) : Int)) (putRec (returnRefused r) s) := if_pos ⟨judges, low⟩

theorem takeReturn_accepts {D : Int} (h : judged s r = true → -((g.late * 100 : Nat) : Int) ≤ D) :
    takeReturn r g D s = acceptReturn false r s := if_neg fun c => absurd (h c.1) (not_le.2 c.2)

end Depth

/-! ## The return accepted (R67) -/

section Return

variable {s : State} {r : Record} {g : SegEntry} {i : Nat}

/-- The record whose lead goes on along the step after its pocket. -/
def returned (s : State) (r : Record) (g : SegEntry) (arr : List Arrival) (w : Option TrailExp) : Record := { r with
  progress := .moving, depth := none, lead := ⟨r.lead.step + 1, travelOf s g.zone, 0⟩
  leadExp := some (windowOn s r g 0), arrivals := arr, trailExp := w }

theorem stepSeg_some {m : MapStore} {k : Nat} (step : stepNo (pathOf m r) k = some i) (seg : m.seg? i = some g) :
    stepSeg m r k = some g := by
  simp [stepSeg, step, seg]

theorem acceptReturn_eq {seen : Bool} (step : stepNo (pathOf s.pms r) (r.lead.step + 1) = some i) (seg : s.pms.seg? i = some g) :
    acceptReturn seen r s = settle r.sheet (takeStep 0 (if seen then [⟨g.src, g.zone, travelOf s g.zone, i, true⟩] else [])
      { r with depth := none, arrivals := [] } s) := by
  simp only [acceptReturn, stepSeg_some step seg, step]

variable (ungated : definedEntries s.pms.gates = []) (f : findRec s r.sheet = some r) (sent : NoHandOff s r)
  (same : r.trailStep = r.lead.step) (step : stepNo (pathOf s.pms r) (r.lead.step + 1) = some i) (seg : s.pms.seg? i = some g)
  (forward : g.kind ≠ .reverse) (seen : working s g.dst = true)
include ungated f sent same step seg forward seen

/-- At a from node without a working sensor the return leaves no arrivals entry, and no stay window opens. -/
theorem acceptReturn_mark (blind : working s g.src = false) (long : 0 < lengthOf r) :
    acceptReturn false r s = putRec (returned s r g [] none) s := by
  let q : Record := { r with depth := none, arrivals := [] }
  have next : stepSeg s.pms q (q.lead.step + 1) = some g := stepSeg_some (r := r) step seg
  have trail : stepSeg s.pms q (q.trailStep + 1) = some g := by rw [show q.trailStep = q.lead.step from same]; exact next
  have is : trailed none (onward s 0 [] q) = returned s r g [] none := by rw [onward_arrived next forward seen]; rfl
  have taken : takeStep 0 [] q s = putRec (returned s r g [] none) s :=
    is ▸ takeStep_leaves (s := s) (r := q) ungated f sent same (openTrail_unheld (heldEntry_unseen trail blind)) (by simp)
  have rests : Rests s (returned s r g [] none) :=
    rests_short (g := g) next seen (congrArg (· + 1) same) (by show (0 : Int) < ((lengthOf r * 100 : Nat) : Int); omega)
  rw [acceptReturn_eq step seg]
  exact (congrArg (settle r.sheet) taken).trans (settle_putRec rests f rfl)

/-- At a working sensor the return is the one arrival under the body, and its stay window opens. -/
theorem acceptReturn_seen (here : working s g.src = true) :
    let a : Arrival := ⟨g.src, g.zone, travelOf s g.zone, i, true⟩
    acceptReturn true r s = putRec (returned s r g [a] (some (stayOn s r a g))) s := by
  intro a
  let q : Record := { r with depth := none, arrivals := [] }
  have next : stepSeg s.pms q (q.lead.step + 1) = some g := stepSeg_some (r := r) step seg
  have trail : stepSeg s.pms q (q.trailStep + 1) = some g := by rw [show q.trailStep = q.lead.step from same]; exact next
  have held : heldEntry s (onward s 0 [a] q) = some a := by
    have node : trailNext s.pms (onward s 0 [a] q) = some g.src := congrArg (Option.map SegEntry.src) trail
    have entry : ([] ++ [a]).find? (fun a => a.node == g.src) = some a := by simp [a]
    exact heldEntry_eq_some.2 ⟨same.trans_lt (Nat.lt_succ_self _), g.src, node, here, entry⟩
  have fresh (e : TrailExp) (he : some (stayOn s r a g) = some e) : trailRun s e ≤ e.hi := by
    obtain rfl := Option.some.inj he
    have run : trailRun s (stayOn s r a g) = 0 := travelDiff_self _
    rw [run]
    exact Int.natCast_nonneg _
  have is : trailed (some (stayOn s r a g)) (onward s 0 [a] q) = returned s r g [a] (some (stayOn s r a g)) := by
    rw [onward_arrived next forward seen]
    rfl
  have taken : takeStep 0 [a] q s = putRec (returned s r g [a] (some (stayOn s r a g))) s :=
    is ▸ takeStep_leaves (s := s) (r := q) ungated f sent same (openTrail_held held seg) fresh
  have rests : Rests s (returned s r g [a] (some (stayOn s r a g))) := by
    rw [← is]
    exact rests_held (g := g) next (.inr (markLike_working seen)) (congrArg Option.isSome held)
  rw [acceptReturn_eq step seg]
  exact (congrArg (settle r.sheet) taken).trans (settle_putRec rests f rfl)

end Return

/-! ## A pocket's edges (R61, R67) -/

section Pocket

variable {s : State} {r : Record} {g : SegEntry} {d : Depth} {n z : Nat} {stamp : Travel}

/-- The LEAD edge at a pocket's end changes nothing (R61). -/
theorem takeLead_pocket (h : pocketEnd s n = true) (moves : moving s = true) : takeLead n z stamp s = s := by
  unfold moving at moves
  unfold takeLead
  split at moves <;> simp_all

/-- The LEAD edge at the from node of the pocket of a record alone is its return (R61, R67). -/
theorem takeLead_return (only : s.flt.list = [r]) (moves : moving s = true) (progress : r.progress = .reversing)
    (unwatched : r.leadExp = none) (depth : r.depth = some d) (lead : leadSeg s.pms r = some g) (apart : g.src ≠ g.dst) :
    takeLead g.src z stamp s = judgeReturn r g d.value s := by
  have pocket : pocketEnd s g.src = false := by simp [pocketEnd, only, lead, apart.symm]
  have reversing : reversingAt s.pms g.src r = some g := by simp [reversingAt, progress, lead]
  have none_ : expectedAt s g.src = none := by simp [expectedAt, only, unwatched, nearest]
  have back : returnsAt s g.src = some (r, g) := by simp [returnsAt, only, reversing]
  have within : returnsWithin s g.src = some (r, g) ∨ returnsWithin s g.src = none := by
    simp only [returnsWithin, only, List.filterMap_cons, reversing, Option.map_some, List.filterMap_nil, List.filter_cons]
    split <;> simp
  have value : depthOf r = d.value := by simp [depthOf, depth]
  have drives : s.rcv.path = .running ∨ s.rcv.path = .halting ∨ s.rcv.path = .runout := by
    revert moves
    unfold moving
    cases s.rcv.path <;> simp
  rw [← value]
  unfold takeLead
  rcases drives with path | path | path <;> rcases within with within | within <;> simp [path, pocket, within, none_, back]

theorem judgeReturn_far (judges : judged s r = true) (far : ((g.early * 100 : Nat) : Int) < d.value) :
    judgeReturn r g d.value s = raiseReversal r g d.value ((g.early * 100 : Nat) : Int) s := if_pos ⟨judges, far⟩

theorem judgeReturn_low (judges : judged s r = true) (low : d.value < -((g.late * 100 : Nat) : Int)) :
    judgeReturn r g d.value s = raiseReversal r g d.value (-((g.late * 100 : Nat) : Int)) s :=
  (if_neg (by omega)).trans (if_pos ⟨judges, low⟩)

theorem judgeReturn_accepts
    (h : judged s r = true → -((g.late * 100 : Nat) : Int) ≤ d.value ∧ d.value ≤ (g.early * 100 : Nat)) :
    judgeReturn r g d.value s = acceptReturn true r s :=
  (if_neg fun c => absurd (h c.1).2 (not_le.2 c.2)).trans (if_neg fun c => absurd (h c.1).1 (not_le.2 c.2))

end Pocket

/-! ## The statement -/

section Turn

variable {s : State} {z : Nat} {e : ZoneEntry} {r q : Record} {g : SegEntry} {d : Depth} {fw : Bool}

theorem carried_depth (h : r.depth = some d) : carried s z r = { r with
    lead := { r.lead with offset := travelDiff (travelOf s z) r.lead.ref }
    depth := some { d with value := travelDiff (travelOf s z) d.ref } } := by
  rw [carried, h]
  rfl

/-- An increment whose record fails (R102, R117), no window of it open. -/
theorem encoderEdge_fails {c : JamCause} {as : List Nat} {v : State} (awake : Awake s) (carries : Carries s z e r g)
    (moved : moveRecord z (counted z e fw s) r.sheet = raiseJam c as v) (left : v.flt.list = [q]) (unwatched : q.leadExp = none)
    (shut : q.trailExp = none) (driven : Driven v) (room : Room 1 v) (settled : Settled v) :
    exec (.encoderEdge z fw) s = .next (failed c as v) := by
  obtain ⟨f, list⟩ := raiseJam_list c as v
  have left' : (raiseJam c as v).flt.list = [disposed (f q) q] := by rw [list, left]; rfl
  have taken := takeIncrement_only (u := counted z e fw s) carries.moves carries.only moved left' (by simp [disposed, unwatched])
    (by simp [disposed, shut])
  rw [encoderEdge_takes awake carries.room carries.zone carries.gates taken,
    finish_untouched (by rw [raiseJam_rpq]; exact settled.1), raiseJam_fails driven room settled.2]

theorem leadRun_arrived (g : SegEntry) : leadRun s (windowOn s r g 0) ≤ (windowOn s r g 0).hi := by
  rw [leadRun_windowOn (by decide)]
  exact Int.natCast_nonneg _

end Turn

/-- What SwitchbackTurns supposes of its record. -/
structure Turning (s : State) (e : ZoneEntry) (r : Record) (g : SegEntry) (d : Depth) : Prop where
  awake : Awake s
  carries : Carries s g.zone e r g
  progress : r.progress = .reversing
  unwatched : r.leadExp = none
  shut : r.trailExp = none
  depth : r.depth = some d
  back : g.kind = .reverse
  apart : g.src ≠ g.dst
  same : r.trailStep = r.lead.step
  long : 0 < lengthOf r
  sent : NoHandOff s r

/-- A record with its offset and its depth taken from the travel of its pocket's zone (R60, R66). -/
def turnedTo (u : State) (z : Nat) (d : Depth) (r : Record) : Record := { r with
  lead := { r.lead with offset := travelDiff (travelOf u z) r.lead.ref }
  depth := some { d with value := travelDiff (travelOf u z) d.ref } }

section Turning

variable {s u x : State} {e : ZoneEntry} {r q : Record} {g : SegEntry} {d : Depth} {D b : Int} {fw : Bool} (h : Turning s e r g d)
include h

/-- An increment judges the depth that it has carried the record to. -/
theorem Turning.moved (counts : counted g.zone e fw s = u) :
    moveRecord g.zone u r.sheet = judgeDepth (turnedTo u g.zone d r) (setList [turnedTo u g.zone d r] u) := by
  subst counts
  have only : (counted g.zone e fw s).flt.list = [r] := h.carries.only
  rw [moveRecord_reverses (s := counted g.zone e fw s) h.carries.moves (findRec_only only) h.progress h.carries.lead rfl,
    carried_depth h.depth]
  exact congrArg (judgeDepth _) (putRec_only only rfl)

/-- It is REVERSAL with the record as `q` has it: carried to its depth, or refused its return. -/
theorem Turning.fails (counts : counted g.zone e fw s = u) (watched : Watched s r) (room : Room 1 s)
    (like : q = turnedTo u g.zone d r ∨ q = returnRefused (turnedTo u g.zone d r))
    (judged : judgeDepth (turnedTo u g.zone d r) (setList [turnedTo u g.zone d r] u) = raiseReversal q g D b (setList [q] u)) :
    exec (.encoderEdge g.zone fw) s = .next (failed ⟨.reversal, some r.sheet, some g.src, some g.zone, some D, some b, s.sys.now⟩
      (unionAreas (bodyAreas s.pms r) (nodeAreas s.pms g.src)) (setList [q] u)) := by
  have moved := (h.moved counts).trans (judged.trans (raiseReversal_eq (findRec_only rfl) D b))
  subst counts
  rcases like with rfl | rfl <;>
    exact encoderEdge_fails h.awake h.carries moved rfl h.unwatched h.shut (watched_driven watched) room h.awake.2

theorem Turning.keeps (counts : counted g.zone e fw s = u)
    (judged : judgeDepth (turnedTo u g.zone d r) (setList [turnedTo u g.zone d r] u) = setList [q] u)
    (within : ∀ w, q.leadExp = some w → w.kind = .travel → w.zone = g.zone → leadRun u w ≤ w.hi) (shut : q.trailExp = none) :
    exec (.encoderEdge g.zone fw) s = .next (setList [q] u) := by
  have moved := (h.moved counts).trans judged
  subst counts
  exact encoderEdge_keeps h.awake h.carries moved within shut

/-- The LEAD edge at the pocket's from node is judged as the return. -/
theorem Turning.taken {line y y' : Nat} (zone : nodeZone s.pms g.src = some y') :
    edgeEvent g.src true (edged line y g.src true s) = judgeReturn r g d.value (edged line y g.src true s) :=
  (edgeEvent_lead (s := edged line y g.src true s) zone).trans (takeLead_return (s := edged line y g.src true s) h.carries.only
    h.carries.moves h.progress h.unwatched h.depth h.carries.lead h.apart)

end Turning

/-- Settles O41: at an increment by `judgeDepth`'s cases, at an edge by `takeLead_return` and `judgeReturn`'s. -/
theorem switchbackTurns : Obligations.SwitchbackTurns := by
  intro z e r g d s awake carries progress unwatched shut depth back apart same long sent low early far cause areas goesOn
  have here := carries.here
  subst here
  have h : Turning s e r g d := ⟨awake, carries, progress, unwatched, shut, depth, back, apart, same, long, sent⟩
  have gates := carries.gates
  have found : findRec s r.sheet = some r := findRec_only carries.only
  refine ⟨fun fw => ?_, fun line x y => ?_⟩
  · intro u D c v runs takes kept
    have alike : Alike s v := .of_sfe rfl rfl
    have judges : judged v c = true ↔ Watched s r := judged_eq_true (s := v) (r := c) awake.2.2
    have marks : (markLike v g.src = true ∧ d.refused = false) ↔ takes := by rw [alike.markLike]
    have lowest : low ≤ 0 := Int.neg_nonpos_of_nonneg (Int.natCast_nonneg _)
    have near (below : D < low) : D ≤ far := (below.le.trans lowest).trans (Int.natCast_nonneg _)
    have turned : c.depth = some ⟨D, d.ref, d.refused⟩ := rfl
    have lead : leadSeg v.pms c = some g := carries.lead
    have beyond (watched : Watched s r) (above : far < D) : judgeDepth c v = raiseReversal c g D far v :=
      judgeDepth_far (s := v) (d := ⟨D, d.ref, d.refused⟩) turned lead (judges.2 watched) above
    have marked (fits : Watched s r → D ≤ far) (turns : takes) : judgeDepth c v = if D ≤ 0 then takeReturn c g D v else v :=
      judgeDepth_mark (s := v) (d := ⟨D, d.ref, d.refused⟩) turned lead (fun j => fits (judges.1 j)) (marks.2 turns)
    have unmarked (fits : Watched s r → D ≤ far) (stays : ¬takes) :
        judgeDepth c v = if judged v c = true ∧ D < low then raiseReversal c g D low v else v :=
      judgeDepth_other (s := v) (d := ⟨D, d.ref, d.refused⟩) turned lead (fun j => fits (judges.1 j)) fun t => stays (marks.1 t)
    refine ⟨?_, ?_, ?_⟩
    · exact fun watched above room => h.fails rfl watched room (.inl rfl) (beyond watched above)
    · refine fun watched below room => ⟨fun turns => ?_, fun stays => ?_⟩
      · have refused : putRec (returnRefused c) v = kept := putRec_only (s := v) (r := c) rfl rfl
        have fault := (marked (fun _ => near below) turns).trans (if_pos (below.le.trans lowest))
        rw [takeReturn_low (judges.2 watched) below, refused] at fault
        exact h.fails rfl watched room (.inr rfl) fault
      · exact h.fails rfl watched room (.inl rfl)
          ((unmarked (fun _ => near below) stays).trans (if_pos ⟨judges.2 watched, below⟩))
    · intro within
      have fits (watched : Watched s r) : low ≤ D ∧ D ≤ far := within.resolve_left fun c => c watched
      refine ⟨fun stays => ?_, fun g' turns reached next source forward seen => ?_⟩
      · have still : judgeDepth c v = v := by
          by_cases turns : takes
          · exact (marked (fun w => (fits w).2) turns).trans (if_neg (not_le.2 (stays.resolve_left fun c => c turns)))
          · exact (unmarked (fun w => (fits w).2) turns).trans (if_neg fun c => absurd (fits (judges.1 c.1)).1 (not_le.2 c.2))
        exact h.keeps rfl still (fun w window => absurd (unwatched.symm.trans window) (by simp)) shut
      · obtain ⟨i, step, seg⟩ := Option.bind_eq_some_iff.1 next
        have turned : judgeDepth c v = acceptReturn false c v :=
          ((marked (fun w => (fits w).2) turns).trans (if_pos reached)).trans (takeReturn_accepts fun j => (fits (judges.1 j)).1)
        have blind : working v g'.src = false := by rw [source, alike.working]; exact (markLike_away turns.1).1
        have accepts := acceptReturn_mark (s := v) (r := c) gates (findRec_only (r := c) rfl) sent same step seg forward
          ((alike.working _).trans seen) blind long
        exact h.keeps rfl ((turned.trans accepts).trans (putRec_only (s := v) (r := c) rfl rfl)) (fun w window _ _ => by
          obtain rfl := Option.some.inj window
          exact leadRun_arrived g') rfl
  · intro p runs
    refine ⟨fun edge zoned => ?_, fun edge here zoned => ?_⟩
    · obtain ⟨y', zone⟩ := Option.isSome_iff_exists.1 zoned
      have pocket : pocketEnd s g.dst = true := by simp [pocketEnd, carries.only, carries.lead, back]
      exact sensorEdge_edge awake edge ((edgeEvent_lead (s := edged line y g.dst true s) zone).trans
        (takeLead_pocket (s := edged line y g.dst true s) pocket carries.moves)) awake.2
    · obtain ⟨y', zone⟩ := Option.isSome_iff_exists.1 zoned
      have alike : Alike s p := edged_alike line y g.src true s
      have judges : judged p r = true ↔ Watched s r := judged_eq_true (s := p) awake.2.2
      have fails {b : Int} (watched : Watched s r) (room : Room 1 s)
          (judged : judgeReturn r g d.value p = raiseReversal r g d.value b p) : runs (failed (cause d.value b) areas p) :=
        sensorEdge_fails awake edge ((h.taken zone).trans (judged.trans (raiseReversal_eq (s := p) found d.value b)))
          (watched_driven watched) room awake.2
      refine ⟨fun watched above room => fails watched room (judgeReturn_far (judges.2 watched) above),
        fun watched below room => fails watched room (judgeReturn_low (judges.2 watched) below),
        fun i g' fits step seg source forward seen => ?_⟩
      intro a
      have accepted : judgeReturn r g d.value p = acceptReturn true r p :=
        judgeReturn_accepts fun j => fits.resolve_left fun c => c (judges.1 j)
      have returns := acceptReturn_seen (s := p) gates found sent same step seg forward ((alike.working _).trans seen)
        ((alike.working _).trans (source ▸ here))
      have event := ((h.taken zone).trans (accepted.trans returns)).trans (putRec_only (s := p) carries.only rfl)
      rw [source] at event
      exact sensorEdge_edge awake edge event awake.2

end Sys2Proof.Machine
end

section
/-! SUPPORT. Departures at a local destination (R64, R71, R114 to R118, R148), and the obligation SheetsLeave. -/

namespace Sys2Proof.Machine

/-! ## One record among others that stand on other zones -/

section Around

variable {s t u : State} {z n : Nat} {r q : Record} {pre post : List Record}

theorem others_apart (distinct : ((pre ++ r :: post).map (·.sheet)).Nodup) : ∀ q ∈ pre ++ post, q.sheet ≠ r.sheet := by
  have first := (List.perm_middle.map Record.sheet).nodup_iff.1 distinct
  intro q mem same
  exact (List.nodup_cons.1 first).1 (same ▸ List.mem_map_of_mem mem)

theorem putRec_around (list : s.flt.list = pre ++ r :: post) (apart : ∀ q ∈ pre ++ post, q.sheet ≠ r.sheet)
    (same : q.sheet = r.sheet) :
    putRec q s = setList (pre ++ q :: post) s := by
  have keep (l : List Record) (h : ∀ x ∈ l, x.sheet ≠ r.sheet) : (l.map fun x => if x.sheet = r.sheet then q else x) = l :=
    (List.map_congr_left fun x hx => if_neg (h x hx)).trans (List.map_id l)
  rw [putRec, list, same, List.map_append, List.map_cons, if_pos rfl, keep pre fun x hx => apart x (List.mem_append_left post hx),
    keep post fun x hx => apart x (List.mem_append_right pre hx)]

theorem filter_around (apart : ∀ q ∈ pre ++ post, q.sheet ≠ r.sheet) (same : q.sheet = r.sheet) :
    (pre ++ q :: post).filter (fun y => decide (y.sheet ≠ r.sheet)) = pre ++ post := by
  have keep : (pre ++ post).filter (fun y => decide (y.sheet ≠ r.sheet)) = pre ++ post :=
    List.filter_eq_self.2 fun x hx => decide_eq_true (apart x hx)
  rw [List.filter_append] at keep
  rw [List.filter_append, List.filter_cons_of_neg (by simp [same]), keep]

theorem judgeWindows_away (h : ∀ r, findRec s n = some r → (∀ w, r.leadExp = some w → w.zone ≠ z) ∧
    ∀ w, r.trailExp = some w → w.zone ≠ z) : judgeWindows z s n = s := by
  cases f : findRec s n with
  | none => simp [judgeWindows, withRec, f]
  | some r => exact judgeWindows_keeps f (fun w hw _ here => absurd here ((h r f).1 w hw)) (h r f).2

/-- An increment moves the records of its zone: here one, among others that it does not concern. -/
theorem takeIncrement_around (moves : moving u = true) (list : u.flt.list = pre ++ r :: post)
    (distinct : (u.flt.list.map (·.sheet)).Nodup)
    (away : ∀ q ∈ pre ++ post, ∀ g, leadSeg u.pms q = some g → g.zone ≠ z) (moved : moveRecord z u r.sheet = t)
    (left : ∀ q ∈ t.flt.list, q.sheet ≠ r.sheet → moving t = true → ∀ g, leadSeg t.pms q = some g → g.zone ≠ z)
    (windows : ∀ q ∈ t.flt.list, (∀ w, q.leadExp = some w → w.zone ≠ z) ∧ ∀ w, q.trailExp = some w → w.zone ≠ z) :
    takeIncrement z u = t := by
  have sheets : sheetsOf u = pre.map (·.sheet) ++ r.sheet :: post.map (·.sheet) := by simp [sheetsOf, list]
  have apart := others_apart (list ▸ distinct)
  have before : (pre.map (·.sheet)).foldl (moveRecord z) u = u := foldl_fixed fun k hk => moveRecord_away fun q f _ => by
    obtain ⟨x, hx, rfl⟩ := List.mem_map.1 hk
    have other : q.sheet ≠ r.sheet := findRec_sheet f ▸ apart x (List.mem_append_left post hx)
    have mem : q ∈ pre ++ r :: post := list ▸ List.mem_of_find?_eq_some f
    exact away q (by simpa [show q ≠ r from fun same => other (same ▸ rfl)] using mem)
  have after : (post.map (·.sheet)).foldl (moveRecord z) t = t := foldl_fixed fun k hk => moveRecord_away fun q f => by
    obtain ⟨x, hx, rfl⟩ := List.mem_map.1 hk
    exact left q (List.mem_of_find?_eq_some f) (findRec_sheet f ▸ apart x (List.mem_append_right pre hx))
  unfold takeIncrement
  rw [if_pos moves, sheets, List.foldl_append, before, List.foldl_cons, moved, after]
  exact foldl_fixed fun k _ => judgeWindows_away fun q f => windows q (List.mem_of_find?_eq_some f)

end Around

/-! ## A record leaves -/

section Leaves

variable {s t : State} {n : Nat} {r : Record}

theorem settle_leaves (moves : moving s = true) (f : findRec s n = some r) (lead : markExcess s r = none)
    (trail : trailMark s r = false) (arrives : atDestination s r = true) : settle n s = leave (arrivedAs r) n s := by
  have crosses (k : Nat) : crossTrails n (k + 1) s = leave (arrivedAs r) n s := by
    simp only [crossTrails, f, trail, arrives, if_true, Bool.false_eq_true, if_false]
  rw [settle, if_pos moves, crossMarks_rests f lead, crosses 39]

/-- The state that a purged record leaves, but for its notice: its reprint entry offered, its set told and its held disposition
dropped (R71, R115, R118, R148). -/
def purgedOut (r : Record) (s : State) : State := { s with
  flt := { s.flt with list := s.flt.list.filter fun y => decide (y.sheet ≠ r.sheet) }
  rcv := { s.rcv with held := s.rcv.held.filter fun p => decide (p.1 ≠ r.sheet) }
  rpq := offer (sheetEntry s.pms .purged r) s.rpq
  xlm := { s.xlm with sets := lostSets r s.xlm.sets } }

theorem takeOut_purged (ungated : definedEntries s.pms.gates = []) : takeOut r .purged s =
    post (.purged r.sheet r.job r.ordinal ((endOf s.pms (pathOf s.pms r)).getD 0)) (purgedOut r s) := by
  unfold takeOut
  dsimp only
  rw [memberLeaves, memberLost_eq]
  by_cases room : Room 1 s
  · rw [post_room _ (show Room 1 (offerFinal s.pms r .purged (dropRec r.sheet s)) from room),
      post_room _ (show Room 1 (purgedOut r s) from room)]
    refine (rederiveFor_ungated (by exact ungated) r).trans ?_
    rfl
  · rw [post_full _ (show ¬Room 1 (offerFinal s.pms r .purged (dropRec r.sheet s)) from room),
      post_full _ (show ¬Room 1 (purgedOut r s) from room)]
    refine (rederiveFor_ungated (by exact ungated) r).trans ?_
    rfl

end Leaves

/-! ## The run-out ends (R116, R120) -/

section RunOut

variable {s t : State}

/-- The REPRINT notice of a queue (R137). -/
def reprintNotice (q : Rpq) : Notice :=
  .reprint q.queue.length (q.queue.countP fun e => match e with | .overflow _ _ => true | _ => false) q.incomplete

/-- The end of an event tells what it has offered to the queue (R137). -/
theorem finish_reprints (calm : s.rcv.moment.underway = false) (room : Room 1 s) : finish s =
    noticed (if s.rpq.touched = true then [reprintNotice s.rpq] else []) (setRpq { s.rpq with touched := false } s) := by
  rw [finish, closeEvent_settled calm]
  by_cases touched : s.rpq.touched = true
  · rw [if_pos touched]
    exact (if_pos touched).trans (post_room _ room)
  · have same : setRpq { s.rpq with touched := false } s = s := by
      rw [Bool.not_eq_true] at touched
      rw [← touched]
      rfl
    rw [if_neg touched, same]
    refine (if_neg touched).trans ?_
    simp [noticed]

/-- R120's decision holds the positions in CLEARING or RESUMABLE, and tells it. -/
theorem decideRecovery_aside (s : State) :
    ∃ p, (p = .clearing ∨ p = .resumable) ∧ Aside (setPath p (holdPositions s)) (decideRecovery s) := by
  unfold decideRecovery
  split
  · exact ⟨.clearing, .inl rfl, Aside.foldl listArea_aside _ _⟩
  · have due : Aside (setPath .resumable (holdPositions s)) (setDue [] (setPath .resumable (holdPositions s))) := ⟨_, _, _, rfl⟩
    exact ⟨.resumable, .inr rfl, due.trans (post_aside _ _)⟩

theorem holdPositions_eq (s : State) : ∃ tr, holdPositions s = { s with
    flt := { s.flt with list := s.flt.list.map fun q => { q with leadExp := none, trailExp := none } }
    rcv := { s.rcv with holdTravel := tr } } := by
  unfold holdPositions
  dsimp only
  split <;> exact ⟨_, rfl⟩

/-- The end of an event takes the REPRINT mark down (R137). -/
theorem finish_aside (s : State) : Aside { closeEvent s with rpq := { s.rpq with touched := false } } (finish s) := by
  unfold finish postReprint
  split
  · exact post_aside _ _
  · rename_i untouched
    have down : (closeEvent s).rpq.touched = false := by simpa using untouched
    have same : ({ s.rpq with touched := false } : Rpq) = s.rpq := by rw [← down]; rfl
    rw [same]
    exact .refl _

theorem noticed_noticed (ns ms : List Notice) (s : State) : noticed ms (noticed ns s) = noticed (ns ++ ms) s := by
  simp [noticed]

theorem speedOf_congr (zdu : t.zdu = s.zdu) (y : Nat) : speedOf t y = speedOf s y := by
  rw [speedOf, zoneAt, zdu]
  rfl

theorem speedOf_halted (s : State) (y : Nat) : speedOf (haltZones s) y = 0 := by
  simp only [speedOf, zoneAt, haltZones, List.getElem?_map]
  cases s.zdu.zones[y]? <;> rfl

theorem decideRecovery_eq (s : State) : let t := decideRecovery s
    (t.rcv.path = .clearing ∨ t.rcv.path = .resumable) ∧ t.zdu = s.zdu ∧
      t.flt.list = s.flt.list.map (fun q => { q with leadExp := none, trailExp := none }) ∧ t.rcv.jam = s.rcv.jam ∧
      t.rpq = s.rpq ∧ t.xlm = s.xlm := by
  intro t
  obtain ⟨p, left, decided⟩ := decideRecovery_aside s
  obtain ⟨tr, held⟩ := holdPositions_eq s
  rw [held] at decided
  obtain ⟨c, ns, l, eq⟩ := decided
  rw [show t = _ from eq]
  exact ⟨left, rfl, rfl, rfl, rfl, rfl⟩

/-- The state in which a run-out's last departure leaves the path (R116, R120). -/
theorem finish_recovers (s : State) : let t := finish (decideRecovery (haltZones s))
    (t.rcv.path = .clearing ∨ t.rcv.path = .resumable) ∧ (∀ y, speedOf t y = 0) ∧
      t.flt.list = s.flt.list.map (fun q => { q with leadExp := none, trailExp := none }) ∧ t.rcv.jam = s.rcv.jam ∧
      t.rpq = { s.rpq with touched := false } ∧ t.xlm = s.xlm := by
  intro t
  obtain ⟨path, zdu, list, jam, rpq, xlm⟩ := decideRecovery_eq (haltZones s)
  obtain ⟨c, ns, l, eq⟩ := finish_aside (decideRecovery (haltZones s))
  rw [show t = _ from eq]
  refine ⟨path, fun y => ?_, list, jam, ?_, xlm⟩
  · exact (speedOf_congr (s := haltZones s) zdu y).trans (speedOf_halted s y)
  · exact congrArg (fun q : Rpq => { q with touched := false }) rpq

/-- A departure that ends neither RUNNING nor a run-out (R71, R116). -/
theorem afterLeaving_stays {f : Final} (h : s.rcv.path = .halting ∨ (s.rcv.path = .running ∧ s.flt.list ≠ []) ∨
    (s.rcv.path = .runout ∧ ∃ q ∈ s.flt.list, q.disp = some .deliver ∨ q.disp = some .purge)) : afterLeaving f s = s := by
  rcases h with path | ⟨path, more⟩ | ⟨path, going⟩
  · exact afterLeaving_keeps (by simp [path]) (by simp [path])
  · exact afterLeaving_keeps (by simp [path]) fun _ => more
  · have goes : runOutGoing s = true := by simpa [runOutGoing] using going
    simp [afterLeaving, path, runOutEnd, goes]

/-- The last DELIVER or PURGE record ends the run-out (R116). -/
theorem afterLeaving_ends {f : Final} (path : s.rcv.path = .runout)
    (last : ¬∃ q ∈ s.flt.list, q.disp = some .deliver ∨ q.disp = some .purge) :
    afterLeaving f s = decideRecovery (haltZones s) := by
  have ended : runOutGoing s = false := by
    rw [Bool.eq_false_iff]
    simpa [runOutGoing] using last
  simp [afterLeaving, path, runOutEnd, ended]

theorem afterLeaving_arms (path : s.rcv.path = .running) (last : s.flt.list = []) : afterLeaving .delivered s = enterArmed s := by
  simp [afterLeaving, path, last]

theorem enterArmed_eq (s : State) : enterArmed s = { s with
    rcv := { s.rcv with path := .armed }
    spm := if s.xlm.sets = [] ∧ s.spm.marker = true ∧ writingSnapshot s.spm = false
      then addOp ⟨.invalidate, [(0, List.replicate 16 0)]⟩ s.spm else s.spm } := by
  have empty : s.xlm.sets.isEmpty = true ↔ s.xlm.sets = [] := List.isEmpty_iff
  unfold enterArmed armedEntered
  by_cases clears : s.xlm.sets = [] ∧ s.spm.marker = true ∧ writingSnapshot s.spm = false
  · rw [if_pos clears]
    exact if_pos ⟨empty.2 clears.1, clears.2⟩
  · rw [if_neg clears]
    exact if_neg fun c => clears ⟨empty.1 c.1, c.2⟩

theorem deliveredSets_nil {r : Record} {sets : List SetEntry} : deliveredSets r sets = [] ↔ sets = [] := by
  unfold deliveredSets changedSet
  split
  · split <;> simp
  · rfl

end RunOut

/-! ## The statement -/

section End

variable {s : State} {r : Record} {g : SegEntry} {m : MapStore}

/-- A path's last step ends at its destination. -/
theorem endOf_lead (lead : leadSeg m r = some g) (last : r.lead.step = (pathOf m r).length) : endOf m (pathOf m r) = some g.dst := by
  obtain ⟨i, step, seg⟩ := Option.bind_eq_some_iff.1 lead
  have final : (pathOf m r).getLast? = some i := by
    rw [List.getLast?_eq_getElem?, ← last]
    unfold stepNo at step
    split at step
    · cases step
    · exact step
  simp [endOf, final, seg]

theorem markExcess_last (last : r.lead.step = (pathOf s.pms r).length) : markExcess s r = none := by
  unfold markExcess
  split
  · exact if_neg fun c => absurd c.2.2.1 last.not_lt
  · rfl

/-- A record whose trail stands on the last step, to a local destination, has arrived when its lead is a sheet length past it, and it
has no disposition REMOVE (R64, R71, R114). -/
theorem atDestination_iff (lead : leadSeg s.pms r = some g) (progress : r.progress = .moving) (same : r.trailStep = r.lead.step)
    (last : r.lead.step = (pathOf s.pms r).length) (dest : nodeKind s.pms g.dst = some .dest)
    (here : stationOfNode s.pms g.dst = none) :
    atDestination s r = true ↔ r.disp ≠ some .remove ∧ (((g.len + lengthOf r) * 100 : Nat) : Int) ≤ r.lead.offset := by
  unfold atDestination
  rw [lead]
  simp [progress, same, last, dest, here, removing]

theorem leave_eq {n : Nat} (f : findRec s n = some r) (o : Final) : leave o n s = afterLeaving o (takeOut r o s) := by
  simp [leave, f]

end End

/-- What SheetsLeave supposes of its record and of those about it. -/
structure AtEnd (s : State) (z : Nat) (e : ZoneEntry) (r : Record) (g : SegEntry) (ahead behind : List Record) : Prop where
  awake : Awake s
  room : z < s.zdu.zones.length
  zone : s.pms.zone? z = some e
  moves : moving s = true
  gates : definedEntries s.pms.gates = []
  list : s.flt.list = ahead ++ r :: behind
  distinct : (s.flt.list.map (·.sheet)).Nodup
  others : ∀ q ∈ ahead ++ behind, (∀ h, leadSeg s.pms q = some h → h.zone ≠ z) ∧
    (∀ w, q.leadExp = some w → w.zone ≠ z) ∧ ∀ w, q.trailExp = some w → w.zone ≠ z
  lead : leadSeg s.pms r = some g
  here : g.zone = z
  progress : r.progress = .moving
  plain : r.depth = none
  unwatched : r.leadExp = none
  shut : r.trailExp = none
  same : r.trailStep = r.lead.step
  last : r.lead.step = (pathOf s.pms r).length
  dest : nodeKind s.pms g.dst = some .dest
  stationless : stationOfNode s.pms g.dst = none

/-- A record with its lead's offset taken from its zone's travel (R60). -/
def ledTo (s : State) (z : Nat) (r : Record) : Record :=
  { r with lead := { r.lead with offset := travelDiff (travelOf s z) r.lead.ref } }

section AtEnd

variable {s t x : State} {z : Nat} {e : ZoneEntry} {r : Record} {g : SegEntry} {ahead behind : List Record} {fw : Bool}
  (h : AtEnd s z e r g ahead behind)
include h

theorem AtEnd.apart : ∀ q ∈ ahead ++ behind, q.sheet ≠ r.sheet := others_apart (h.list ▸ h.distinct)

/-- Where the increment has carried the record to, `settle` decides. -/
theorem AtEnd.moved : let u := counted z e fw s
    let v := setList (ahead ++ ledTo u z r :: behind) u
    findRec v r.sheet = some (ledTo u z r) ∧ moveRecord z u r.sheet = settle r.sheet v := by
  intro u v
  have found : findRec u r.sheet = some r := findRec_mem (s := s) h.distinct (by rw [h.list]; simp)
  have put : putRec (ledTo u z r) u = v := putRec_around (s := u) h.list h.apart rfl
  refine ⟨put ▸ findRec_putRec found rfl, ?_⟩
  rw [moveRecord_moves (s := u) h.moves found h.progress h.lead h.here h.gates, carried_plain h.plain, ← put]
  rfl

/-- An increment that leaves the others as they were, or stops the path with no window open. -/
theorem AtEnd.ends {u : State} (counts : counted z e fw s = u)
    (settled : settle r.sheet (setList (ahead ++ ledTo u z r :: behind) u) = t)
    (pms : t.pms = s.pms) (left : ∀ q ∈ t.flt.list, q ∈ ahead ++ behind ∨ q = ledTo u z r ∨
      (moving t = false ∧ q.leadExp = none ∧ q.trailExp = none)) : exec (.encoderEdge z fw) s = .next (finish t) := by
  subst counts
  refine encoderEdge_takes h.awake h.room h.zone h.gates (takeIncrement_around (u := counted z e fw s) h.moves h.list h.distinct
    (fun q hq => (h.others q hq).1) (h.moved.2.trans settled) (fun q hq apart drives => ?_) fun q hq => ?_)
  · rcases left q hq with mem | rfl | ⟨stopped, -⟩
    · exact pms ▸ (h.others q mem).1
    · exact absurd rfl apart
    · exact absurd (stopped.symm.trans drives) (by decide)
  · rcases left q hq with mem | rfl | ⟨-, noLead, noTrail⟩
    · exact (h.others q mem).2
    · exact ⟨by simp [ledTo, h.unwatched], by simp [ledTo, h.shut]⟩
    · exact ⟨by simp [noLead], by simp [noTrail]⟩

/-- The record stays, or leaves with its outcome. -/
theorem AtEnd.settles : let u := counted z e fw s
    let v := setList (ahead ++ ledTo u z r :: behind) u
    let arrives := r.disp ≠ some .remove ∧ (((g.len + lengthOf r) * 100 : Nat) : Int) ≤ travelDiff (travelOf u z) r.lead.ref
    (¬arrives → settle r.sheet v = v) ∧
    (arrives → settle r.sheet v = afterLeaving (arrivedAs r) (takeOut (ledTo u z r) (arrivedAs r) v)) := by
  intro u v arrives
  have found := (h.moved (fw := fw)).1
  have unmarked : markExcess v (ledTo u z r) = none := markExcess_last (s := v) (r := ledTo u z r) h.last
  have untrailed : trailMark v (ledTo u z r) = false := by simp [trailMark, ledTo, h.same]
  have dest : atDestination v (ledTo u z r) = true ↔ arrives :=
    atDestination_iff (s := v) (r := ledTo u z r) h.lead h.progress h.same h.last h.dest h.stationless
  refine ⟨fun short => settle_stays found unmarked untrailed ?_, fun arrived => ?_⟩
  · rwa [Bool.eq_false_iff, Ne, dest]
  · exact (settle_leaves (s := v) h.moves found unmarked untrailed (dest.2 arrived)).trans (leave_eq found _)

/-- The increment at which the last departure ends the run-out (R116, R120). -/
theorem AtEnd.recovers (halted : settle r.sheet (setList (ahead ++ ledTo (counted z e fw s) z r :: behind) (counted z e fw s)) =
    decideRecovery (haltZones x)) (pms : x.pms = s.pms) : ∃ t, exec (.encoderEdge z fw) s = .next t ∧
      (t.rcv.path = .clearing ∨ t.rcv.path = .resumable) ∧ (∀ y, speedOf t y = 0) ∧
      t.flt.list = x.flt.list.map (fun q => { q with leadExp := none, trailExp := none }) ∧ t.rcv.jam = x.rcv.jam ∧
      t.rpq = { x.rpq with touched := false } ∧ t.xlm = x.xlm := by
  obtain ⟨path, -, list, -⟩ := decideRecovery_eq (haltZones x)
  refine ⟨_, h.ends rfl halted ((decideRecovery_ordinary _).pms.trans pms) fun q hq => .inr (.inr ⟨?_, ?_⟩), finish_recovers x⟩
  · rcases path with path | path <;> simp [moving, path]
  · rw [list] at hq
    obtain ⟨y, -, rfl⟩ := List.mem_map.1 hq
    exact ⟨rfl, rfl⟩

end AtEnd

/-- Settles O42: the record stays or leaves by `AtEnd.settles`, as `takeOut_delivered` or `takeOut_purged` says, and what that does to
the path state is `afterLeaving`'s. -/
theorem sheetsLeave : Obligations.SheetsLeave := by
  intro z fw e r g ahead behind s awake room zone moves gates list distinct others lead here progress plain unwatched shut same last
    dest stationless u off bound runs rest out going
  have h : AtEnd s z e r g ahead behind := ⟨awake, room, zone, moves, gates, list, distinct, others, lead, here, progress,
    plain, unwatched, shut, same, last, dest, stationless⟩
  let c := ledTo u z r
  let v := setList (ahead ++ c :: behind) u
  have keeps {t : State} (settled : settle r.sheet v = t) (pms : t.pms = s.pms) (left : t.flt.list = rest) :
      exec (.encoderEdge z fw) s = .next (finish t) := h.ends rfl settled pms fun q hq =>
    .inl (show q ∈ rest by rwa [← left])
  refine ⟨fun short => ?_, fun reached kept => ?_⟩
  · have stays : settle r.sheet v = v := (h.settles (fw := fw)).1 fun c =>
      short.elim (fun short => absurd c.2 (not_le.2 short)) c.1
    have stands : exec (.encoderEdge z fw) s = .next (finish v) := h.ends rfl stays rfl fun q hq => by
      have mem : q ∈ ahead ++ c :: behind := hq
      simp only [List.mem_append, List.mem_cons] at mem ⊢
      tauto
    have settled : Settled v := awake.2
    exact stands.trans (congrArg Host.Outcome.next (finish_settled settled))
  have departs : settle r.sheet v = afterLeaving (arrivedAs r) (takeOut c (arrivedAs r) v) :=
    (h.settles (fw := fw)).2 ⟨kept, reached⟩
  have filtered : v.flt.list.filter (fun y => decide (y.sheet ≠ c.sheet)) = rest := filter_around h.apart rfl
  let told : Notice := .purged r.sheet r.job r.ordinal g.dst
  let x : State := { out (lostSets r s.xlm.sets) with rpq := offer (sheetEntry s.pms .purged r) s.rpq }
  have purges {j : PurgeJoin} (join : r.purgeJoin = some j) : settle r.sheet v = afterLeaving .purged (post told x) := by
    have as : arrivedAs r = .purged := by simp [arrivedAs, join]
    have outs := takeOut_purged (s := v) (r := c) gates
    rw [purgedOut, filtered, endOf_lead (r := c) (m := v.pms) lead last] at outs
    rw [departs, as, outs]
    rfl
  refine ⟨fun whole room => ?_, fun j join room path => ?_, fun j join path ended => ?_⟩
  · intro t
    have as : arrivedAs r = .delivered := by simp [arrivedAs, whole]
    have outs : takeOut c .delivered v = t := by
      rw [takeOut_delivered (s := v) gates room, deliveredOut, filtered]
      rfl
    rw [as, outs] at departs
    have settled : Settled t := awake.2
    refine ⟨fun path => ?_, fun path none => ?_, fun path ended => ?_⟩
    · have stands := keeps (departs.trans (afterLeaving_stays (s := t) path)) rfl rfl
      exact stands.trans (congrArg Host.Outcome.next (finish_settled settled))
    · have armed := departs.trans ((afterLeaving_arms (s := t) path none).trans (enterArmed_eq t))
      have stands := keeps armed rfl rfl
      rw [finish_settled (by exact settled)] at stands
      have sets : t.xlm.sets = [] ↔ s.xlm.sets = [] := deliveredSets_nil
      simp only [sets] at stands
      exact stands
    · obtain ⟨t', runs, path, speeds, list, jam, -, xlm⟩ := h.recovers (departs.trans (afterLeaving_ends (s := t) path ended)) rfl
      exact ⟨t', runs, path, speeds, list, jam, xlm⟩
  · intro q
    have posted : post told x = noticed [told] x := post_room told (show Room 1 x from Nat.le_of_succ_le room)
    have settles : settle r.sheet v = noticed [told] x := by
      rw [purges join, posted]
      exact afterLeaving_stays (s := noticed [told] x) (path.imp_right .inr)
    have more : Room 1 (noticed [told] x) := by
      have queue : s.clk.notices.length + 2 ≤ 32 := room
      show (s.clk.notices ++ [told]).length + 1 ≤ 32
      simp only [List.length_append, List.length_singleton]
      omega
    refine (keeps settles rfl rfl).trans (congrArg Host.Outcome.next ?_)
    exact (finish_reprints (s := noticed [told] x) awake.2.2 more).trans
      (noticed_noticed [told] _ (setRpq { q with touched := false } x))
  · have aside := post_aside told x
    have rcv : (post told x).rcv = { s.rcv with held := s.rcv.held.filter fun p => decide (p.1 ≠ r.sheet) } := aside.still.rcv
    have gone : (post told x).flt.list = rest := congrArg Flt.list aside.flt
    obtain ⟨t', runs, path', speeds, list, jam, rpq, xlm⟩ := h.recovers ((purges join).trans (afterLeaving_ends
      (by rw [rcv]; exact path) (by rw [gone]; exact ended))) aside.pms
    rw [gone] at list
    exact ⟨t', runs, path', speeds, list, jam.trans (by rw [rcv]),
      rpq.trans (congrArg (fun q : Rpq => { q with touched := false }) aside.still.rpq), xlm.trans aside.still.xlm⟩

end Sys2Proof.Machine
end
